-- ==== Sys2Proof/Word.lean ====
section
/-! DEFINITION. The byte of the fleet link. Everything else the manual counts is a natural number or an integer. -/

namespace Sys2Proof

/-- One byte of a frame or a record on the fleet link (11.9). -/
abbrev Byte := BitVec 8

/-- The tag of a request, 0 to 6 bytes, echoed in its reply (R178, 11.9). -/
abbrev Tag := List Byte

end Sys2Proof
end

