-- ==== Sys2Proof/Config.lean ====
section
/-! DEFINITION. What the part fixes (00 "Capacities", and the bounds the rules state), and the values the manual leaves
open, as constants without a body. -/

namespace Sys2Proof.Config

/-- Uptime stops here (R168); every 32-bit counter saturates here (R25, R110). -/
def maxCount : Nat := 4294967295
/-- The last wall time (R169). -/
def maxWall : Nat := 1099511627775
/-- The seconds of a day. -/
def daySeconds : Nat := 86400
/-- The largest move of a later CLOCK_SET (R172). -/
def maxMove : Nat := 172800
/-- The most day rolls of one warm start (R175). -/
def maxCatchUp : Nat := 62

/-! Capacities (00 "Capacities"). -/
def accounts : Nat := 4096
def pools : Nat := 64
def badges : Nat := 6144
def badgesPerAccount : Nat := 2
def jobs : Nat := 2048
def jobsPerAccount : Nat := 32
def floors : Nat := 128
def printers : Nat := 96
def menuSize : Nat := 8
def drainSize : Nat := 32
def inFlight : Nat := 4
def types : Nat := 32
def tickets : Nat := 64
def requestQueue : Nat := 16
def replyQueue : Nat := 32
def noticeQueue : Nat := 64
def owedNotices : Nat := 1024
def frameRequests : Nat := 4
def frameBytes : Nat := 510
/-- READY promises this many free request-queue entries (11 "The port and its lines"). -/
def readyRoom : Nat := 4
/-- Entries of one JOB_LIST or CALLOUT_LIST reply (R49, R153). -/
def listEntries : Nat := 4

/-! Bounds of quota fields (R4, R15, R26, R33). -/
def maxAllotment : Nat := 1000000
def maxOverdraft : Nat := 65535
def maxWarn : Nat := 2000000
def minBalance : Int := -1048575
def maxBalance : Int := 2000000
/-- The last job number (R39). -/
def maxJob : Nat := 65535
/-- On hand and on order saturate here (R124, R134, R136). -/
def maxStock : Nat := 999
/-- The fixed length of the restart credit deadline (R92). -/
def restartCredit : Nat := 86400

/-- A FREE VALUE (log 20): the offset a MALFORMED reply reports for the request at a place of a frame where the manual
names no one byte as the first found wrong (R179). Applied to the frame's bytes, as far as they were clocked,
and the request's place in the frame. -/
opaque malformedOffset : List Byte → Nat → Nat

/-- A FREE VALUE (log 19): the length byte of a field whose value is longer than the 255 bytes that byte can say (11.9).
Applied to the value's length. -/
opaque overlongLength : Nat → Byte

/-- A FREE VALUE (log 39): the seconds CLOCK_READ reports until a roll deadline falls due that never falls due, because it was armed
at the last uptime (R168, R173). Applied to the wall-time offset. -/
opaque neverDueSeconds : Int → Nat

end Sys2Proof.Config
end

