-- ==== Sys2Proof/Syntax.lean ====
section
/-! DEFINITION. The commands: one constructor of `Instr` for each row of spec/opcode_table.json, with the row's operands.

A request carries its tag and its fields in the order its rule lists them (R187). Named values, yes-or-no values and condition
sets are the bytes the frame carries, since a byte that names nothing still reaches its block, which refuses it with RANGE
(R187). A field that a request selects is an option: absent, it is not selected. -/

namespace Sys2Proof

/-- The seven conditions of a printer, in the order of R85. -/
inductive Condition
  | paperLow | paperOut | paperJam | doorOpen | fuser | engine | offline
deriving DecidableEq, Repr

/-- A record's deadline that can fall due, named by its record (R168). The roll deadline is not among them: at a start the
clock's catch-up takes its place (R175). -/
inductive DeadlineName
  | expiry (job : Nat)
  | idle (printer : Nat)
  | grantWindow (job : Nat)
  | completionWindow (job : Nat)
  | qualification (printer : Nat) (condition : Condition)
  | restart (printer : Nat)
  | restartCredit (printer : Nat)
  | heartbeat (printer : Nat)
  | absence (printer : Nat)
  | overdue (supplyType : Nat)
  | acknowledgement (ticket : Nat)
  | work (ticket : Nat)
deriving DecidableEq, Repr

/-- One piece of a warm start's work, which the part may take in any order (R36, R123, R175; log 5). -/
inductive StartWork
  /-- Return the RELEASING job of this number (R82). -/
  | giveBack (job : Nat)
  /-- Perform the catch-up day rolls (R175). -/
  | rolls
  /-- Take a deadline that passed while main power was off. -/
  | deadline (name : DeadlineName)
deriving DecidableEq, Repr

/-- The fields of ACCOUNT_OPEN (R3). -/
structure AccountOpen where
  account : Nat
  pool : Option Nat
  colour : Nat
  allotment : Nat
  overdraft : Nat
  warnLow : Nat
  warnHigh : Nat
deriving DecidableEq, Repr

/-- The fields of ACCOUNT_SET (R5). -/
structure AccountSet where
  account : Nat
  pool : Option (Option Nat)
  colour : Option Nat
  allotment : Option Nat
  overdraft : Option Nat
  warnLow : Option Nat
  warnHigh : Option Nat
deriving DecidableEq, Repr

/-- The fields of JOB_SUBMIT (R41). A target is the byte of its kind and the byte of its number (R187). -/
structure JobSubmit where
  owner : Nat
  mono : Nat
  colour : Nat
  size : Nat
  duplex : Nat
  targetKind : Nat
  targetNumber : Nat
deriving DecidableEq, Repr

/-- The fields of PAGES_DONE (R76). -/
structure PagesDone where
  job : Nat
  grant : Nat
  mono : Nat
  colour : Nat
  sumK : Nat
  sumC : Nat
  sumM : Nat
  sumY : Nat
deriving DecidableEq, Repr

/-- The settings RELEASE_CONFIG selects (R80). -/
structure ReleaseConfig where
  idleTimeout : Option Nat
  grantWindow : Option Nat
  completionWindow : Option Nat
  maxAttempts : Option Nat
deriving DecidableEq, Repr

/-- The fields of PRINTER_ADD (R100). -/
structure PrinterAdd where
  printer : Nat
  floor : Nat
  sibling : Option Nat
  colour : Nat
  duplex : Nat
  largeTray : Nat
  modelGroup : Nat
  slotCount : Nat
  heartbeatTimeout : Nat
  autoReturn : Nat
  restartPermitted : Nat
deriving DecidableEq, Repr

/-- The fields of PRINTER_SET (R101). -/
structure PrinterSet where
  printer : Nat
  floor : Option Nat
  sibling : Option (Option Nat)
  colour : Option Nat
  duplex : Option Nat
  largeTray : Option Nat
  modelGroup : Option Nat
  slotCount : Option Nat
  heartbeatTimeout : Option Nat
  autoReturn : Option Nat
  restartPermitted : Option Nat
deriving DecidableEq, Repr

/-- The settings HEALTH_CONFIG selects (R103). -/
structure HealthConfig where
  paperOut : Option Nat
  paperJam : Option Nat
  doorOpen : Option Nat
  fuser : Option Nat
  engine : Option Nat
  offline : Option Nat
  restartWindow : Option Nat
  absenceDelay : Option Nat
deriving DecidableEq, Repr

/-- The six settings of a supply type, each omitted or given (R126, R127). -/
structure SupplySettings where
  ratedYield : Option Nat
  lowPercent : Option Nat
  leadDays : Option Nat
  safetyDays : Option Nat
  reorderQuantity : Option Nat
  minimumStock : Option Nat
deriving DecidableEq, Repr

/-- The settings CALLOUT_CONFIG selects (R154). -/
structure CalloutConfig where
  ack0 : Option Nat
  ack1 : Option Nat
  ack2 : Option Nat
  ack3 : Option Nat
  workTime : Option Nat
  alarmLevel : Option Nat
deriving DecidableEq, Repr

/-- The commands. -/
inductive Instr
  -- power, the link and its transactions
  /-- Main power rises (R185); `order` is the order in which a warm start's work is taken (log 5). -/
  | mainPowerRise (order : List StartWork)
  | mainPowerFall
  | standbyPowerLoss
  | linkResetAssert
  | linkResetRelease
  /-- A WRITE_FRAME transaction; `bytes` are those clocked after the transaction byte (R177). -/
  | writeFrame (bytes : List Byte)
  | malformedMarker
  /-- A read transaction; `clocked` bytes are clocked after the transaction byte before SELECT is released (R180). -/
  | readReply (clocked : Nat)
  | readNotice (clocked : Nat)
  | readLinkStatus (clocked : Nat)
  /-- `bytes` are those clocked after the transaction byte; the first is the mask (R183). -/
  | setAttentionMask (bytes : List Byte)
  /-- `clocked` bytes are clocked after the transaction byte, none unless said; the byte alone makes the link reset (R176, R186). -/
  | resync (clocked : Nat := 0)
  -- accounts, badges, pools, quota
  | accountOpen (tag : Tag) (fields : AccountOpen)
  | accountSet (tag : Tag) (fields : AccountSet)
  | accountRead (tag : Tag) (account : Nat)
  | accountSuspend (tag : Tag) (account : Nat)
  | accountResume (tag : Tag) (account : Nat)
  | accountCredit (tag : Tag) (account : Nat) (amount : Int)
  | peakClear (tag : Tag) (account : Nat)
  | accountRetire (tag : Tag) (account : Nat)
  | badgeBind (tag : Tag) (code account : Nat)
  | badgeUnbind (tag : Tag) (code account : Nat)
  | badgeFind (tag : Tag) (code : Nat)
  | poolRetire (tag : Tag) (pool : Nat)
  | poolOpen (tag : Tag) (pool allotment : Nat)
  | poolSet (tag : Tag) (pool allotment : Nat)
  | poolRead (tag : Tag) (pool : Nat)
  | poolCredit (tag : Tag) (pool : Nat) (amount : Int)
  | quotaConfig (tag : Tag) (mono colour period : Option Nat)
  -- the hold queue
  | jobSubmit (tag : Tag) (fields : JobSubmit)
  | jobCancel (tag : Tag) (job account : Nat)
  | jobRead (tag : Tag) (job : Nat)
  | jobList (tag : Tag) (account position : Nat)
  | holdConfig (tag : Tag) (hours : Option Nat)
  | expiryDeadline (job : Nat)
  -- release terminals and grants
  | badgePresented (tag : Tag) (printer code : Nat)
  | next (tag : Tag) (printer : Nat)
  | previous (tag : Tag) (printer : Nat)
  | select (tag : Tag) (printer : Nat)
  | selectAll (tag : Tag) (printer : Nat)
  | delete (tag : Tag) (printer : Nat)
  | done (tag : Tag) (printer : Nat)
  | drainGrant (printer : Nat)
  | idleDeadline (printer : Nat)
  | spoolAccepted (tag : Tag) (job grant : Nat)
  | spoolFailed (tag : Tag) (job grant : Nat)
  | pagesDone (tag : Tag) (fields : PagesDone)
  | grantWindow (job : Nat)
  | completionWindow (job : Nat)
  | visitRead (tag : Tag) (printer : Nat)
  | releaseConfig (tag : Tag) (fields : ReleaseConfig)
  -- printers
  | printerAdd (tag : Tag) (fields : PrinterAdd)
  | printerSet (tag : Tag) (fields : PrinterSet)
  | printerRead (tag : Tag) (printer : Nat)
  | statusReport (tag : Tag) (printer conditions : Nat) (readings : List Nat)
  | conditionsClear (tag : Tag) (printer conditions : Nat)
  | serviceWithdraw (tag : Tag) (printer : Nat)
  | serviceReturn (tag : Tag) (printer : Nat)
  | healthConfig (tag : Tag) (fields : HealthConfig)
  | printerRetire (tag : Tag) (printer : Nat)
  | printerReseat (tag : Tag) (printer : Nat)
  | qualificationDeadline (printer : Nat) (condition : Condition)
  | restartDeadline (printer : Nat)
  | restartCreditDeadline (printer : Nat)
  | heartbeatDeadline (printer : Nat)
  | absenceDeadline (printer : Nat)
  -- cartridges and stock
  | supplyDefine (tag : Tag) (supplyType colour modelGroup : Nat) (settings : SupplySettings)
  | supplySet (tag : Tag) (supplyType : Nat) (settings : SupplySettings)
  | supplyRead (tag : Tag) (supplyType : Nat)
  | supplyConfig (tag : Tag) (shift : Option Nat)
  | supplyRetire (tag : Tag) (supplyType : Nat)
  | cartridgeInstall (tag : Tag) (printer slot supplyType : Nat)
  | cartridgeRead (tag : Tag) (printer slot : Nat)
  | orderPlaced (tag : Tag) (supplyType quantity : Nat)
  | deliveryReceived (tag : Tag) (supplyType quantity : Nat)
  | stockAdjust (tag : Tag) (supplyType count : Nat)
  | overdueDeadline (supplyType : Nat)
  -- callouts
  | calloutRead (tag : Tag) (ticket : Nat)
  | calloutList (tag : Tag) (selection position : Nat)
  | calloutAck (tag : Tag) (ticket : Nat)
  | calloutClose (tag : Tag) (ticket : Nat)
  | calloutConfig (tag : Tag) (fields : CalloutConfig)
  | acknowledgementDeadline (ticket : Nat)
  | workDeadline (ticket : Nat)
  -- the clock
  | clockSet (tag : Tag) (wall : Nat) (countdown : Option Nat)
  | clockRead (tag : Tag)
  | rollDeadline
  | uptimeTick
deriving DecidableEq, Repr

/-- An entry of the request queue (R179): a well-formed request, or a MALFORMED marker with its request code, its tag where it
could be read, the offset of the first byte found wrong and the number of frame bytes after it. -/
inductive Entry
  | request (command : Instr)
  | marker (code : Nat) (tag : Tag) (offset discarded : Nat)
deriving DecidableEq, Repr

end Sys2Proof
end

