-- ==== Sys2Proof/WellFormed.lean ====
section
/-! DEFINITION. Which commands a frame can carry: the tag is short enough and every field fits the bytes that 11.8 gives it
(R178, R187). A well-formed command may still name a value out of its range: its block then refuses it (R178). No meaning
asks for well-formedness; commands that fail it are still executed, by the same rules. -/

namespace Sys2Proof

/-- The value fits `width` bytes. -/
def fits (width v : Nat) : Bool := v < 256 ^ width

/-- An absent value fits; a present one fits `width` bytes. -/
def fitsOpt (width : Nat) : Option Nat → Bool
  | none => true
  | some v => fits width v

/-- A selectable optional value: not selected, selected as absent, or a value of `width` bytes. -/
def fitsOptOpt (width : Nat) : Option (Option Nat) → Bool
  | none => true
  | some v => fitsOpt width v

/-- A signed value of four bytes (R187). -/
def fitsSigned (v : Int) : Bool := -2147483648 ≤ v && v ≤ 2147483647

/-- A tag is 0 to 6 bytes (R178). -/
def tagFits (t : Tag) : Bool := t.length ≤ 6

def AccountOpen.wf (f : AccountOpen) : Bool :=
  fits 2 f.account && fitsOpt 1 f.pool && fits 1 f.colour && fits 4 f.allotment && fits 2 f.overdraft && fits 4 f.warnLow
    && fits 4 f.warnHigh

def AccountSet.wf (f : AccountSet) : Bool :=
  fits 2 f.account && fitsOptOpt 1 f.pool && fitsOpt 1 f.colour && fitsOpt 4 f.allotment && fitsOpt 2 f.overdraft
    && fitsOpt 4 f.warnLow && fitsOpt 4 f.warnHigh

def JobSubmit.wf (f : JobSubmit) : Bool :=
  fits 2 f.owner && fits 2 f.mono && fits 2 f.colour && fits 1 f.size && fits 1 f.duplex && fits 1 f.targetKind
    && fits 1 f.targetNumber

def PagesDone.wf (f : PagesDone) : Bool :=
  fits 2 f.job && fits 4 f.grant && fits 2 f.mono && fits 2 f.colour && fits 4 f.sumK && fits 4 f.sumC && fits 4 f.sumM
    && fits 4 f.sumY

def ReleaseConfig.wf (f : ReleaseConfig) : Bool :=
  fitsOpt 2 f.idleTimeout && fitsOpt 2 f.grantWindow && fitsOpt 4 f.completionWindow && fitsOpt 1 f.maxAttempts

def PrinterAdd.wf (f : PrinterAdd) : Bool :=
  fits 1 f.printer && fits 1 f.floor && fitsOpt 1 f.sibling && fits 1 f.colour && fits 1 f.duplex && fits 1 f.largeTray
    && fits 1 f.modelGroup && fits 1 f.slotCount && fits 2 f.heartbeatTimeout && fits 1 f.autoReturn
    && fits 1 f.restartPermitted

def PrinterSet.wf (f : PrinterSet) : Bool :=
  fits 1 f.printer && fitsOpt 1 f.floor && fitsOptOpt 1 f.sibling && fitsOpt 1 f.colour && fitsOpt 1 f.duplex
    && fitsOpt 1 f.largeTray && fitsOpt 1 f.modelGroup && fitsOpt 1 f.slotCount && fitsOpt 2 f.heartbeatTimeout
    && fitsOpt 1 f.autoReturn && fitsOpt 1 f.restartPermitted

def HealthConfig.wf (f : HealthConfig) : Bool :=
  fitsOpt 2 f.paperOut && fitsOpt 2 f.paperJam && fitsOpt 2 f.doorOpen && fitsOpt 2 f.fuser && fitsOpt 2 f.engine
    && fitsOpt 2 f.offline && fitsOpt 2 f.restartWindow && fitsOpt 4 f.absenceDelay

def SupplySettings.wf (f : SupplySettings) : Bool :=
  fitsOpt 2 f.ratedYield && fitsOpt 1 f.lowPercent && fitsOpt 1 f.leadDays && fitsOpt 1 f.safetyDays
    && fitsOpt 1 f.reorderQuantity && fitsOpt 1 f.minimumStock

def CalloutConfig.wf (f : CalloutConfig) : Bool :=
  fitsOpt 4 f.ack0 && fitsOpt 4 f.ack1 && fitsOpt 4 f.ack2 && fitsOpt 4 f.ack3 && fitsOpt 4 f.workTime
    && fitsOpt 1 f.alarmLevel

/-- The request codes of 11.9, with the tag; `none` for a command that is no request. The six keys share TERMINAL_KEY. -/
def Instr.request? : Instr → Option (Nat × Tag)
  | .mainPowerRise _ => none
  | .mainPowerFall => none
  | .standbyPowerLoss => none
  | .linkResetAssert => none
  | .linkResetRelease => none
  | .writeFrame _ => none
  | .malformedMarker => none
  | .readReply _ => none
  | .readNotice _ => none
  | .readLinkStatus _ => none
  | .setAttentionMask _ => none
  | .resync _ => none
  | .accountOpen t _ => some (0x10, t)
  | .accountSet t _ => some (0x11, t)
  | .accountRead t _ => some (0x12, t)
  | .accountSuspend t _ => some (0x13, t)
  | .accountResume t _ => some (0x14, t)
  | .accountCredit t _ _ => some (0x15, t)
  | .peakClear t _ => some (0x16, t)
  | .accountRetire t _ => some (0x17, t)
  | .badgeBind t _ _ => some (0x18, t)
  | .badgeUnbind t _ _ => some (0x19, t)
  | .badgeFind t _ => some (0x1A, t)
  | .poolRetire t _ => some (0x1B, t)
  | .poolOpen t _ _ => some (0x1C, t)
  | .poolSet t _ _ => some (0x1D, t)
  | .poolRead t _ => some (0x1E, t)
  | .poolCredit t _ _ => some (0x1F, t)
  | .quotaConfig t _ _ _ => some (0x20, t)
  | .jobSubmit t _ => some (0x28, t)
  | .jobCancel t _ _ => some (0x29, t)
  | .jobRead t _ => some (0x2A, t)
  | .jobList t _ _ => some (0x2B, t)
  | .holdConfig t _ => some (0x2C, t)
  | .expiryDeadline _ => none
  | .badgePresented t _ _ => some (0x30, t)
  | .next t _ => some (0x31, t)
  | .previous t _ => some (0x31, t)
  | .select t _ => some (0x31, t)
  | .selectAll t _ => some (0x31, t)
  | .delete t _ => some (0x31, t)
  | .done t _ => some (0x31, t)
  | .drainGrant _ => none
  | .idleDeadline _ => none
  | .spoolAccepted t _ _ => some (0x32, t)
  | .spoolFailed t _ _ => some (0x33, t)
  | .pagesDone t _ => some (0x34, t)
  | .grantWindow _ => none
  | .completionWindow _ => none
  | .visitRead t _ => some (0x35, t)
  | .releaseConfig t _ => some (0x36, t)
  | .printerAdd t _ => some (0x40, t)
  | .printerSet t _ => some (0x41, t)
  | .printerRead t _ => some (0x42, t)
  | .statusReport t _ _ _ => some (0x43, t)
  | .conditionsClear t _ _ => some (0x44, t)
  | .serviceWithdraw t _ => some (0x45, t)
  | .serviceReturn t _ => some (0x46, t)
  | .healthConfig t _ => some (0x47, t)
  | .printerRetire t _ => some (0x48, t)
  | .printerReseat t _ => some (0x49, t)
  | .qualificationDeadline _ _ => none
  | .restartDeadline _ => none
  | .restartCreditDeadline _ => none
  | .heartbeatDeadline _ => none
  | .absenceDeadline _ => none
  | .supplyDefine t _ _ _ _ => some (0x50, t)
  | .supplySet t _ _ => some (0x51, t)
  | .supplyRead t _ => some (0x52, t)
  | .supplyConfig t _ => some (0x53, t)
  | .supplyRetire t _ => some (0x54, t)
  | .cartridgeInstall t _ _ _ => some (0x55, t)
  | .cartridgeRead t _ _ => some (0x56, t)
  | .orderPlaced t _ _ => some (0x57, t)
  | .deliveryReceived t _ _ => some (0x58, t)
  | .stockAdjust t _ _ => some (0x59, t)
  | .overdueDeadline _ => none
  | .calloutRead t _ => some (0x60, t)
  | .calloutList t _ _ => some (0x61, t)
  | .calloutAck t _ => some (0x62, t)
  | .calloutClose t _ => some (0x63, t)
  | .calloutConfig t _ => some (0x64, t)
  | .acknowledgementDeadline _ => none
  | .workDeadline _ => none
  | .clockSet t _ _ => some (0x70, t)
  | .clockRead t => some (0x71, t)
  | .rollDeadline => none
  | .uptimeTick => none

/-- The fields of a command fit their bytes (R187); the record an event names is within its table. -/
def Instr.fieldsFit : Instr → Bool
  | .mainPowerRise _ => true
  | .mainPowerFall => true
  | .standbyPowerLoss => true
  | .linkResetAssert => true
  | .linkResetRelease => true
  | .writeFrame _ => true
  | .malformedMarker => true
  | .readReply _ => true
  | .readNotice _ => true
  | .readLinkStatus _ => true
  | .setAttentionMask _ => true
  | .resync _ => true
  | .accountOpen _ f => f.wf
  | .accountSet _ f => f.wf
  | .accountRead _ a => fits 2 a
  | .accountSuspend _ a => fits 2 a
  | .accountResume _ a => fits 2 a
  | .accountCredit _ a n => fits 2 a && fitsSigned n
  | .peakClear _ a => fits 2 a
  | .accountRetire _ a => fits 2 a
  | .badgeBind _ c a => fits 4 c && fits 2 a
  | .badgeUnbind _ c a => fits 4 c && fits 2 a
  | .badgeFind _ c => fits 4 c
  | .poolRetire _ p => fits 1 p
  | .poolOpen _ p n => fits 1 p && fits 4 n
  | .poolSet _ p n => fits 1 p && fits 4 n
  | .poolRead _ p => fits 1 p
  | .poolCredit _ p n => fits 1 p && fitsSigned n
  | .quotaConfig _ m c p => fitsOpt 1 m && fitsOpt 1 c && fitsOpt 1 p
  | .jobSubmit _ f => f.wf
  | .jobCancel _ j a => fits 2 j && fits 2 a
  | .jobRead _ j => fits 2 j
  | .jobList _ a p => fits 2 a && fits 2 p
  | .holdConfig _ h => fitsOpt 1 h
  | .expiryDeadline j => fits 2 j
  | .badgePresented _ p c => fits 1 p && fits 4 c
  | .next _ p => fits 1 p
  | .previous _ p => fits 1 p
  | .select _ p => fits 1 p
  | .selectAll _ p => fits 1 p
  | .delete _ p => fits 1 p
  | .done _ p => fits 1 p
  | .drainGrant p => fits 1 p
  | .idleDeadline p => fits 1 p
  | .spoolAccepted _ j g => fits 2 j && fits 4 g
  | .spoolFailed _ j g => fits 2 j && fits 4 g
  | .pagesDone _ f => f.wf
  | .grantWindow j => fits 2 j
  | .completionWindow j => fits 2 j
  | .visitRead _ p => fits 1 p
  | .releaseConfig _ f => f.wf
  | .printerAdd _ f => f.wf
  | .printerSet _ f => f.wf
  | .printerRead _ p => fits 1 p
  | .statusReport _ p c rs => fits 1 p && fits 1 c && rs.length ≤ 255 && rs.all (fits 1)
  | .conditionsClear _ p c => fits 1 p && fits 1 c
  | .serviceWithdraw _ p => fits 1 p
  | .serviceReturn _ p => fits 1 p
  | .healthConfig _ f => f.wf
  | .printerRetire _ p => fits 1 p
  | .printerReseat _ p => fits 1 p
  | .qualificationDeadline p _ => fits 1 p
  | .restartDeadline p => fits 1 p
  | .restartCreditDeadline p => fits 1 p
  | .heartbeatDeadline p => fits 1 p
  | .absenceDeadline p => fits 1 p
  | .supplyDefine _ t c g f => fits 1 t && fits 1 c && fits 1 g && f.wf
  | .supplySet _ t f => fits 1 t && f.wf
  | .supplyRead _ t => fits 1 t
  | .supplyConfig _ k => fitsOpt 1 k
  | .supplyRetire _ t => fits 1 t
  | .cartridgeInstall _ p l t => fits 1 p && fits 1 l && fits 1 t
  | .cartridgeRead _ p l => fits 1 p && fits 1 l
  | .orderPlaced _ t q => fits 1 t && fits 2 q
  | .deliveryReceived _ t q => fits 1 t && fits 2 q
  | .stockAdjust _ t n => fits 1 t && fits 2 n
  | .overdueDeadline t => fits 1 t
  | .calloutRead _ n => fits 4 n
  | .calloutList _ s p => fits 1 s && fits 4 p
  | .calloutAck _ n => fits 4 n
  | .calloutClose _ n => fits 4 n
  | .calloutConfig _ f => f.wf
  | .acknowledgementDeadline n => fits 4 n
  | .workDeadline n => fits 4 n
  | .clockSet _ w c => fits 5 w && fitsOpt 1 c
  | .clockRead _ => true
  | .rollDeadline => true
  | .uptimeTick => true

/-- The tag of a request fits (R178); other commands carry none. -/
def Instr.tagOk (i : Instr) : Bool :=
  match i.request? with
  | none => true
  | some (_, t) => tagFits t

/-- The command can be carried on the link. -/
def Instr.wf (i : Instr) : Bool := i.tagOk && i.fieldsFit

end Sys2Proof
end

