-- ==== Sys2Proof/Decode.lean ====
section
/-! DEFINITION. How LNK reads a frame: its split into requests (R177, R178), the fields of each request's body (R187), and
the command each request stands for. Total on any bytes; what breaks a rule becomes a MALFORMED marker. Behind it, the frame
that a host writes for some requests, from the same layouts.

`decodeTableWord` is at the end: no row of spec/opcode_table.json gives bits, so no word spells a command. -/

namespace Sys2Proof

/-- So many bytes of a number, most significant byte first (11.9). -/
def beBytes : Nat → Nat → List Byte
  | 0, _ => []
  | w + 1, v => BitVec.ofNat 8 (v / 256 ^ w) :: beBytes w v

/-- A value of several bytes, most significant byte first (11.9). -/
def beNat (bytes : List Byte) : Nat := bytes.foldl (fun n b => n * 256 + b.toNat) 0

/-- A signed value, two's complement (R187). -/
def beInt (bytes : List Byte) : Int :=
  let n := beNat bytes
  if 2 * n < 256 ^ bytes.length then n else (n : Int) - 256 ^ bytes.length

/-- The kinds of value a request's field can have (R187). -/
inductive FieldKind
  /-- A number, a named value, a compound: a fixed width. -/
  | fixed (width : Nat)
  /-- A value that may be absent: length 0 or the width. -/
  | optional (width : Nat)
  /-- A list of one-byte elements. -/
  | run
deriving DecidableEq, Repr

/-- A field of a request: its kind, and whether the request requires it. -/
structure FieldRule where
  kind : FieldKind
  required : Bool
deriving DecidableEq, Repr

def FieldKind.allows : FieldKind → Nat → Bool
  | .fixed w, n => n == w
  | .optional w, n => n == 0 || n == w
  | .run, _ => true

/-- A field the request requires. -/
def must (width : Nat) : FieldRule := ⟨.fixed width, true⟩
/-- A setting the request may select. -/
def may (width : Nat) : FieldRule := ⟨.fixed width, false⟩
/-- A required field whose value may be absent. -/
def mustOpt (width : Nat) : FieldRule := ⟨.optional width, true⟩
/-- A selectable setting whose value may be absent. -/
def mayOpt (width : Nat) : FieldRule := ⟨.optional width, false⟩

/-- The request codes of 11.9 with the fields of each request, numbered from 1 in the order of its rule (R187; log 22). A
code that is not in the table gives `none`. -/
def requestFields : Nat → Option (List FieldRule)
  | 0x10 => some [must 2, mustOpt 1, must 1, must 4, must 2, must 4, must 4]
  | 0x11 => some [must 2, mayOpt 1, may 1, may 4, may 2, may 4, may 4]
  | 0x12 => some [must 2]
  | 0x13 => some [must 2]
  | 0x14 => some [must 2]
  | 0x15 => some [must 2, must 4]
  | 0x16 => some [must 2]
  | 0x17 => some [must 2]
  | 0x18 => some [must 4, must 2]
  | 0x19 => some [must 4, must 2]
  | 0x1A => some [must 4]
  | 0x1B => some [must 1]
  | 0x1C => some [must 1, must 4]
  | 0x1D => some [must 1, must 4]
  | 0x1E => some [must 1]
  | 0x1F => some [must 1, must 4]
  | 0x20 => some [may 1, may 1, may 1]
  | 0x28 => some [must 2, must 2, must 2, must 1, must 1, must 2]
  | 0x29 => some [must 2, must 2]
  | 0x2A => some [must 2]
  | 0x2B => some [must 2, must 2]
  | 0x2C => some [may 1]
  | 0x30 => some [must 1, must 4]
  | 0x31 => some [must 1, must 1]
  | 0x32 => some [must 2, must 4]
  | 0x33 => some [must 2, must 4]
  | 0x34 => some [must 2, must 4, must 2, must 2, must 4, must 4, must 4, must 4]
  | 0x35 => some [must 1]
  | 0x36 => some [may 2, may 2, may 4, may 1]
  | 0x40 => some [must 1, must 1, mustOpt 1, must 1, must 1, must 1, must 1, must 1, must 2, must 1, must 1]
  | 0x41 => some [must 1, may 1, mayOpt 1, may 1, may 1, may 1, may 1, may 1, may 2, may 1, may 1]
  | 0x42 => some [must 1]
  | 0x43 => some [must 1, must 1, ⟨.run, true⟩]
  | 0x44 => some [must 1, must 1]
  | 0x45 => some [must 1]
  | 0x46 => some [must 1]
  | 0x47 => some [may 2, may 2, may 2, may 2, may 2, may 2, may 2, may 4]
  | 0x48 => some [must 1]
  | 0x49 => some [must 1]
  | 0x50 => some [must 1, must 1, must 1, may 2, may 1, may 1, may 1, may 1, may 1]
  | 0x51 => some [must 1, may 2, may 1, may 1, may 1, may 1, may 1]
  | 0x52 => some [must 1]
  | 0x53 => some [may 1]
  | 0x54 => some [must 1]
  | 0x55 => some [must 1, must 1, must 1]
  | 0x56 => some [must 1, must 1]
  | 0x57 => some [must 1, must 2]
  | 0x58 => some [must 1, must 2]
  | 0x59 => some [must 1, must 2]
  | 0x60 => some [must 4]
  | 0x61 => some [must 1, must 4]
  | 0x62 => some [must 4]
  | 0x63 => some [must 4]
  | 0x64 => some [may 4, may 4, may 4, may 4, may 4, may 1]
  | 0x70 => some [must 5, may 1]
  | 0x71 => some []
  | _ => none

/-- A field item of a body: its number and its value's bytes. -/
abbrev Item := Nat × List Byte

/-- The value of the field of that number, where the body carries it. -/
def itemValue (items : List Item) (number : Nat) : Option (List Byte) := (items.find? (fun i => i.1 == number)).map (·.2)

/-- The field items of a body, read one after another (R187, 11.9). An error names the offset of the first byte found wrong,
where the manual lets one be named. -/
def readItems (rules : List FieldRule) : Nat → Nat → List Item → List Byte → Except (Option Nat) (List Item)
  | _, _, seen, [] => .ok seen
  | 0, _, _, _ => .error none
  | _, _, _, [_] => .error none
  | fuel + 1, offset, seen, n :: l :: rest =>
    match rules[n.toNat - 1]? with
    | none => .error (some offset)
    | some rule =>
      if n.toNat = 0 then .error (some offset)
      else if (itemValue seen n.toNat).isSome then .error (some offset)
      else if !rule.kind.allows l.toNat then .error (some (offset + 1))
      else if rest.length < l.toNat then .error none
      else readItems rules fuel (offset + 2 + l.toNat) (seen ++ [(n.toNat, rest.take l.toNat)]) (rest.drop l.toNat)

/-- Every required field is carried. -/
def allRequired (rules : List FieldRule) (items : List Item) : Bool :=
  (rules.zipIdx 1).all (fun r => !r.1.required || (itemValue items r.2).isSome)

/-- The number in a required field. -/
def itemNat (items : List Item) (n : Nat) : Nat := beNat ((itemValue items n).getD [])
/-- The signed number in a required field. -/
def itemInt (items : List Item) (n : Nat) : Int := beInt ((itemValue items n).getD [])
/-- A selectable setting. -/
def itemSel (items : List Item) (n : Nat) : Option Nat := (itemValue items n).map beNat
/-- A value that may be absent: an item of length 0 says so (R187). -/
def optionalValue (bytes : List Byte) : Option Nat := if bytes.isEmpty then none else some (beNat bytes)
def itemOpt (items : List Item) (n : Nat) : Option Nat := optionalValue ((itemValue items n).getD [])
def itemSelOpt (items : List Item) (n : Nat) : Option (Option Nat) := (itemValue items n).map optionalValue
/-- One byte of a compound value. -/
def itemByte (items : List Item) (n at_ : Nat) : Nat := ((((itemValue items n).getD [])[at_]?).getD 0).toNat

/-- TERMINAL_KEY: the key's byte numbers the six keys in the order of R64. A key byte above 5 names none of them: R64 refuses
it with RANGE before it looks at the printer, and that is the answer a printer index of 255 gets (log 21). -/
def keyCommand (tag : Tag) (printer : Nat) : Nat → Instr
  | 0 => .next tag printer
  | 1 => .previous tag printer
  | 2 => .select tag printer
  | 3 => .selectAll tag printer
  | 4 => .delete tag printer
  | 5 => .done tag printer
  | _ => .next tag 255

/-- The command a well-formed request of that code stands for. -/
def requestCommand (tag : Tag) (b : List Item) : Nat → Instr
  | 0x10 => .accountOpen tag ⟨itemNat b 1, itemOpt b 2, itemNat b 3, itemNat b 4, itemNat b 5, itemNat b 6, itemNat b 7⟩
  | 0x11 => .accountSet tag
      ⟨itemNat b 1, itemSelOpt b 2, itemSel b 3, itemSel b 4, itemSel b 5, itemSel b 6, itemSel b 7⟩
  | 0x12 => .accountRead tag (itemNat b 1)
  | 0x13 => .accountSuspend tag (itemNat b 1)
  | 0x14 => .accountResume tag (itemNat b 1)
  | 0x15 => .accountCredit tag (itemNat b 1) (itemInt b 2)
  | 0x16 => .peakClear tag (itemNat b 1)
  | 0x17 => .accountRetire tag (itemNat b 1)
  | 0x18 => .badgeBind tag (itemNat b 1) (itemNat b 2)
  | 0x19 => .badgeUnbind tag (itemNat b 1) (itemNat b 2)
  | 0x1A => .badgeFind tag (itemNat b 1)
  | 0x1B => .poolRetire tag (itemNat b 1)
  | 0x1C => .poolOpen tag (itemNat b 1) (itemNat b 2)
  | 0x1D => .poolSet tag (itemNat b 1) (itemNat b 2)
  | 0x1E => .poolRead tag (itemNat b 1)
  | 0x1F => .poolCredit tag (itemNat b 1) (itemInt b 2)
  | 0x20 => .quotaConfig tag (itemSel b 1) (itemSel b 2) (itemSel b 3)
  | 0x28 => .jobSubmit tag
      ⟨itemNat b 1, itemNat b 2, itemNat b 3, itemNat b 4, itemNat b 5, itemByte b 6 0, itemByte b 6 1⟩
  | 0x29 => .jobCancel tag (itemNat b 1) (itemNat b 2)
  | 0x2A => .jobRead tag (itemNat b 1)
  | 0x2B => .jobList tag (itemNat b 1) (itemNat b 2)
  | 0x2C => .holdConfig tag (itemSel b 1)
  | 0x30 => .badgePresented tag (itemNat b 1) (itemNat b 2)
  | 0x31 => keyCommand tag (itemNat b 1) (itemNat b 2)
  | 0x32 => .spoolAccepted tag (itemNat b 1) (itemNat b 2)
  | 0x33 => .spoolFailed tag (itemNat b 1) (itemNat b 2)
  | 0x34 => .pagesDone tag
      ⟨itemNat b 1, itemNat b 2, itemNat b 3, itemNat b 4, itemNat b 5, itemNat b 6, itemNat b 7, itemNat b 8⟩
  | 0x35 => .visitRead tag (itemNat b 1)
  | 0x36 => .releaseConfig tag ⟨itemSel b 1, itemSel b 2, itemSel b 3, itemSel b 4⟩
  | 0x40 => .printerAdd tag
      ⟨itemNat b 1, itemNat b 2, itemOpt b 3, itemNat b 4, itemNat b 5, itemNat b 6, itemNat b 7, itemNat b 8, itemNat b 9,
        itemNat b 10, itemNat b 11⟩
  | 0x41 => .printerSet tag
      ⟨itemNat b 1, itemSel b 2, itemSelOpt b 3, itemSel b 4, itemSel b 5, itemSel b 6, itemSel b 7, itemSel b 8, itemSel b 9,
        itemSel b 10, itemSel b 11⟩
  | 0x42 => .printerRead tag (itemNat b 1)
  | 0x43 => .statusReport tag (itemNat b 1) (itemNat b 2) (((itemValue b 3).getD []).map (·.toNat))
  | 0x44 => .conditionsClear tag (itemNat b 1) (itemNat b 2)
  | 0x45 => .serviceWithdraw tag (itemNat b 1)
  | 0x46 => .serviceReturn tag (itemNat b 1)
  | 0x47 => .healthConfig tag
      ⟨itemSel b 1, itemSel b 2, itemSel b 3, itemSel b 4, itemSel b 5, itemSel b 6, itemSel b 7, itemSel b 8⟩
  | 0x48 => .printerRetire tag (itemNat b 1)
  | 0x49 => .printerReseat tag (itemNat b 1)
  | 0x50 => .supplyDefine tag (itemNat b 1) (itemNat b 2) (itemNat b 3)
      ⟨itemSel b 4, itemSel b 5, itemSel b 6, itemSel b 7, itemSel b 8, itemSel b 9⟩
  | 0x51 => .supplySet tag (itemNat b 1) ⟨itemSel b 2, itemSel b 3, itemSel b 4, itemSel b 5, itemSel b 6, itemSel b 7⟩
  | 0x52 => .supplyRead tag (itemNat b 1)
  | 0x53 => .supplyConfig tag (itemSel b 1)
  | 0x54 => .supplyRetire tag (itemNat b 1)
  | 0x55 => .cartridgeInstall tag (itemNat b 1) (itemNat b 2) (itemNat b 3)
  | 0x56 => .cartridgeRead tag (itemNat b 1) (itemNat b 2)
  | 0x57 => .orderPlaced tag (itemNat b 1) (itemNat b 2)
  | 0x58 => .deliveryReceived tag (itemNat b 1) (itemNat b 2)
  | 0x59 => .stockAdjust tag (itemNat b 1) (itemNat b 2)
  | 0x60 => .calloutRead tag (itemNat b 1)
  | 0x61 => .calloutList tag (itemNat b 1) (itemNat b 2)
  | 0x62 => .calloutAck tag (itemNat b 1)
  | 0x63 => .calloutClose tag (itemNat b 1)
  | 0x64 => .calloutConfig tag ⟨itemSel b 1, itemSel b 2, itemSel b 3, itemSel b 4, itemSel b 5, itemSel b 6⟩
  | 0x70 => .clockSet tag (itemNat b 1) (itemSel b 2)
  | _ => .clockRead tag

/-- A MALFORMED marker for the request at that place of the frame (R178, R179). Where the manual names no one byte as the
first found wrong, its offset is free (log 20). -/
def markerAt (frame : List Byte) (place code : Nat) (tag : Tag) (offset : Option Nat) : Entry :=
  let o := offset.getD (Config.malformedOffset frame place)
  .marker code tag o (frame.length - (o + 1))

/-- The tag of a request and the bytes behind it, from the bytes behind its header; an error names the byte found wrong. -/
def readTag (offset : Nat) : List Byte → Except (Option Nat) (Tag × List Byte)
  | [] => .error none
  | l :: rest =>
    if l.toNat > 6 then .error (some offset)
    else if rest.length < l.toNat then .error none
    else .ok (rest.take l.toNat, rest.drop l.toNat)

/-- The body of a request and the bytes behind it, from its body length on. -/
def readBody : List Byte → Option (List Byte × List Byte)
  | a :: b :: rest =>
    let n := beNat [a, b]
    if rest.length < n then none else some (rest.take n, rest.drop n)
  | _ => none

/-- One request of a frame, at a place (0 to 3) and an offset: its queue entry and, where its chain flag says that another
request follows and it does, the bytes that follow (R178). -/
def readRequest (frame : List Byte) (place offset : Nat) : List Byte → Entry × Option (List Byte)
  | [] => (markerAt frame place 0 [] none, none)
  | header :: rest =>
    let code := header.toNat % 128
    let chained := 128 ≤ header.toNat
    let tag? := readTag (offset + 1) rest
    let tag := match tag? with
      | .ok (t, _) => t
      | .error _ => []
    match requestFields code with
    | none => (markerAt frame place code tag (some offset), none)
    | some rules =>
      if chained ∧ place + 1 = Config.frameRequests then (markerAt frame place code tag (some offset), none)
      else match tag? with
      | .error o => (markerAt frame place code [] o, none)
      | .ok (_, behind) =>
        match readBody behind with
        | none => (markerAt frame place code tag none, none)
        | some (body, follows) =>
          match readItems rules body.length (offset + 4 + tag.length) [] body with
          | .error o => (markerAt frame place code tag o, none)
          | .ok items =>
            if !allRequired rules items then (markerAt frame place code tag none, none)
            else if chained != !follows.isEmpty then (markerAt frame place code tag none, none)
            else (.request (requestCommand tag items code), if chained then some follows else none)

/-- The requests of a frame, one after another (R178). -/
def splitRequests (frame : List Byte) : Nat → Nat → List Byte → List Entry
  | 0, _, _ => []
  | fuel + 1, place, bytes =>
    match readRequest frame place (frame.length - bytes.length) bytes with
    | (entry, none) => [entry]
    | (entry, some follows) => entry :: splitRequests frame fuel (place + 1) follows

/-- The queue entries of the bytes clocked by one WRITE_FRAME (R177): bytes beyond the frame length are ignored, whatever that
length, and an unsound frame gives one marker with request code 0x00 and no tag. -/
def frameEntries (clocked : List Byte) : List Entry :=
  match clocked with
  | a :: b :: rest =>
    let n := beNat [a, b]
    let frame := a :: b :: rest.take n
    if n = 0 ∨ Config.frameBytes < n ∨ rest.length < n then [markerAt frame 0 0 [] none]
    else splitRequests frame Config.frameRequests 0 (rest.take n)
  | _ => [markerAt clocked 0 0 [] none]

/-! ### Transactions (R176, 11.9) -/

/-- The command of a transaction byte, with the bytes clocked behind it; a byte that names none of the six transactions has none. -/
def transactionCommand (behind : List Byte) : Nat → Option Instr
  | 0x31 => some (.writeFrame behind)
  | 0x52 => some (.readReply behind.length)
  | 0x4E => some (.readNotice behind.length)
  | 0x53 => some (.readLinkStatus behind.length)
  | 0x4D => some (.setAttentionMask behind)
  | 0x7E => some (.resync behind.length)
  | _ => none

/-- The command that a transaction is, from all bytes the host clocks in while SELECT is asserted. One whose SELECT is released
before its transaction byte is complete is none (R176). -/
def transactionOf : List Byte → Option Instr
  | [] => none
  | t :: behind => transactionCommand behind t.toNat

/-! ### Writing a frame -/

/-- A required field of so many bytes. -/
def num (width v : Nat) : Option (List Byte) := some (beBytes width v)

/-- A selectable field: no item where it is not selected (R187). -/
def picked (width : Nat) : Option Nat → Option (List Byte)
  | none => none
  | some v => some (beBytes width v)

/-- A value that may be absent: no bytes where it is (R187). -/
def optBytes (width : Nat) : Option Nat → List Byte
  | none => []
  | some v => beBytes width v

/-- A selectable value that may be absent. -/
def pickedOpt (width : Nat) : Option (Option Nat) → Option (List Byte)
  | none => none
  | some v => some (optBytes width v)

/-- The six settings of a supply type, in the order of R124. -/
def SupplySettings.fields (f : SupplySettings) : List (Option (List Byte)) :=
  [picked 2 f.ratedYield, picked 1 f.lowPercent, picked 1 f.leadDays, picked 1 f.safetyDays, picked 1 f.reorderQuantity,
    picked 1 f.minimumStock]

/-- The fields of a request's body in the order of its rule (R187); a field that is not selected is `none`. A command that is no
request has none. -/
def Instr.fields : Instr → List (Option (List Byte))
  | .mainPowerRise _ => []
  | .mainPowerFall => []
  | .standbyPowerLoss => []
  | .linkResetAssert => []
  | .linkResetRelease => []
  | .writeFrame _ => []
  | .malformedMarker => []
  | .readReply _ => []
  | .readNotice _ => []
  | .readLinkStatus _ => []
  | .setAttentionMask _ => []
  | .resync _ => []
  | .accountOpen _ f => [num 2 f.account, some (optBytes 1 f.pool), num 1 f.colour, num 4 f.allotment, num 2 f.overdraft,
      num 4 f.warnLow, num 4 f.warnHigh]
  | .accountSet _ f => [num 2 f.account, pickedOpt 1 f.pool, picked 1 f.colour, picked 4 f.allotment, picked 2 f.overdraft,
      picked 4 f.warnLow, picked 4 f.warnHigh]
  | .accountRead _ a => [num 2 a]
  | .accountSuspend _ a => [num 2 a]
  | .accountResume _ a => [num 2 a]
  | .accountCredit _ a n => [num 2 a, num 4 (n % 256 ^ 4).toNat]
  | .peakClear _ a => [num 2 a]
  | .accountRetire _ a => [num 2 a]
  | .badgeBind _ c a => [num 4 c, num 2 a]
  | .badgeUnbind _ c a => [num 4 c, num 2 a]
  | .badgeFind _ c => [num 4 c]
  | .poolRetire _ p => [num 1 p]
  | .poolOpen _ p n => [num 1 p, num 4 n]
  | .poolSet _ p n => [num 1 p, num 4 n]
  | .poolRead _ p => [num 1 p]
  | .poolCredit _ p n => [num 1 p, num 4 (n % 256 ^ 4).toNat]
  | .quotaConfig _ m c p => [picked 1 m, picked 1 c, picked 1 p]
  | .jobSubmit _ f => [num 2 f.owner, num 2 f.mono, num 2 f.colour, num 1 f.size, num 1 f.duplex,
      some (beBytes 1 f.targetKind ++ beBytes 1 f.targetNumber)]
  | .jobCancel _ j a => [num 2 j, num 2 a]
  | .jobRead _ j => [num 2 j]
  | .jobList _ a p => [num 2 a, num 2 p]
  | .holdConfig _ h => [picked 1 h]
  | .expiryDeadline _ => []
  | .badgePresented _ p c => [num 1 p, num 4 c]
  | .next _ p => [num 1 p, num 1 0]
  | .previous _ p => [num 1 p, num 1 1]
  | .select _ p => [num 1 p, num 1 2]
  | .selectAll _ p => [num 1 p, num 1 3]
  | .delete _ p => [num 1 p, num 1 4]
  | .done _ p => [num 1 p, num 1 5]
  | .drainGrant _ => []
  | .idleDeadline _ => []
  | .spoolAccepted _ j g => [num 2 j, num 4 g]
  | .spoolFailed _ j g => [num 2 j, num 4 g]
  | .pagesDone _ f => [num 2 f.job, num 4 f.grant, num 2 f.mono, num 2 f.colour, num 4 f.sumK, num 4 f.sumC, num 4 f.sumM,
      num 4 f.sumY]
  | .grantWindow _ => []
  | .completionWindow _ => []
  | .visitRead _ p => [num 1 p]
  | .releaseConfig _ f => [picked 2 f.idleTimeout, picked 2 f.grantWindow, picked 4 f.completionWindow,
      picked 1 f.maxAttempts]
  | .printerAdd _ f => [num 1 f.printer, num 1 f.floor, some (optBytes 1 f.sibling), num 1 f.colour, num 1 f.duplex,
      num 1 f.largeTray, num 1 f.modelGroup, num 1 f.slotCount, num 2 f.heartbeatTimeout, num 1 f.autoReturn,
      num 1 f.restartPermitted]
  | .printerSet _ f => [num 1 f.printer, picked 1 f.floor, pickedOpt 1 f.sibling, picked 1 f.colour, picked 1 f.duplex,
      picked 1 f.largeTray, picked 1 f.modelGroup, picked 1 f.slotCount, picked 2 f.heartbeatTimeout, picked 1 f.autoReturn,
      picked 1 f.restartPermitted]
  | .printerRead _ p => [num 1 p]
  | .statusReport _ p c rs => [num 1 p, num 1 c, some (rs.flatMap (beBytes 1))]
  | .conditionsClear _ p c => [num 1 p, num 1 c]
  | .serviceWithdraw _ p => [num 1 p]
  | .serviceReturn _ p => [num 1 p]
  | .healthConfig _ f => [picked 2 f.paperOut, picked 2 f.paperJam, picked 2 f.doorOpen, picked 2 f.fuser, picked 2 f.engine,
      picked 2 f.offline, picked 2 f.restartWindow, picked 4 f.absenceDelay]
  | .printerRetire _ p => [num 1 p]
  | .printerReseat _ p => [num 1 p]
  | .qualificationDeadline _ _ => []
  | .restartDeadline _ => []
  | .restartCreditDeadline _ => []
  | .heartbeatDeadline _ => []
  | .absenceDeadline _ => []
  | .supplyDefine _ t c g f => [num 1 t, num 1 c, num 1 g] ++ f.fields
  | .supplySet _ t f => num 1 t :: f.fields
  | .supplyRead _ t => [num 1 t]
  | .supplyConfig _ k => [picked 1 k]
  | .supplyRetire _ t => [num 1 t]
  | .cartridgeInstall _ p l t => [num 1 p, num 1 l, num 1 t]
  | .cartridgeRead _ p l => [num 1 p, num 1 l]
  | .orderPlaced _ t q => [num 1 t, num 2 q]
  | .deliveryReceived _ t q => [num 1 t, num 2 q]
  | .stockAdjust _ t n => [num 1 t, num 2 n]
  | .overdueDeadline _ => []
  | .calloutRead _ n => [num 4 n]
  | .calloutList _ s p => [num 1 s, num 4 p]
  | .calloutAck _ n => [num 4 n]
  | .calloutClose _ n => [num 4 n]
  | .calloutConfig _ f => [picked 4 f.ack0, picked 4 f.ack1, picked 4 f.ack2, picked 4 f.ack3, picked 4 f.workTime,
      picked 1 f.alarmLevel]
  | .acknowledgementDeadline _ => []
  | .workDeadline _ => []
  | .clockSet _ w c => [num 5 w, picked 1 c]
  | .clockRead _ => []
  | .rollDeadline => []
  | .uptimeTick => []

/-- The field items of a body, their numbers counted from `number` (11.9). -/
def writeItems : Nat → List (Option (List Byte)) → List Byte
  | _, [] => []
  | number, none :: rest => writeItems (number + 1) rest
  | number, some v :: rest => beBytes 1 number ++ beBytes 1 v.length ++ v ++ writeItems (number + 1) rest

/-- The bytes of one request in a frame: header, tag length, tag, body length, body (11.9). -/
def Instr.bytes (i : Instr) (code : Nat) (tag : Tag) (chained : Bool) : List Byte :=
  let body := writeItems 1 i.fields
  beBytes 1 (code + 128 * chained.toNat) ++ beBytes 1 tag.length ++ tag ++ beBytes 2 body.length ++ body

/-- The requests of a frame laid end to end, the chain flag set on each but the last (R178). -/
def writeRequests : List Instr → List Byte
  | [] => []
  | i :: rest =>
    (match i.request? with
      | none => []
      | some (code, tag) => i.bytes code tag (!rest.isEmpty)) ++ writeRequests rest

/-- The frame that carries some requests (R177): its length, then the requests. -/
def writeFrame (requests : List Instr) : List Byte :=
  beBytes 2 (writeRequests requests).length ++ writeRequests requests

/-- The command that a word spells by the bits of spec/opcode_table.json. The table gives no row any bits. -/
def decodeTableWord (_nbits _w : Nat) : Option Instr := none

end Sys2Proof
end

