-- ==== Sys2Proof/Machine/State.lean ====
section
/-! DEFINITION. The state of the part: the records of its nine blocks, the fleet link, and the queue of commands that wait.

Plain data throughout. A table of records is a list of (index, record) pairs with rising indices; an index that is not listed
is FREE (or IDLE, or unfitted), and such a record has no fields (R1, R14, R37, R56, R83, R107, R124; log 25). Fields that the
manual calls present in certain states only stand in that state's constructor, so they cannot be present elsewhere. -/

namespace Sys2Proof.Machine

/-- Records by index, indices rising. -/
abbrev Table (α : Type) := List (Nat × α)

/-- A deadline: the uptime value it is armed at (R168). `dormant`: it was armed while uptime stood at its end, and so never
falls due (R168; log 10). -/
structure Deadline where
  value : Nat
  dormant : Bool
deriving DecidableEq, Repr

/-! ### Accounts, badges and pools -/

/-- The state of an account that is not FREE (R2). RETIRING keeps the uptime at which the retirement was accepted, which
RECORD_RETIRED carries (R158; log 27). -/
inductive AccountState
  | active
  | suspended
  | retiring (accepted : Nat)
deriving DecidableEq, Repr

/-- An account record (R1). -/
structure Account where
  state : AccountState
  pool : Option Nat
  colour : Bool
  allotment : Nat
  overdraft : Nat
  warnLow : Nat
  warnHigh : Nat
  badgeCount : Nat
  balance : Int
  reserved : Nat
  warned : Bool
  usedPeriod : Nat
  today : Nat
  peak : Nat
  liveJobs : Nat
  openVisit : Option Nat
  inFlight : Nat
deriving DecidableEq, Repr

/-- The state of a pool that is not FREE (R14). -/
inductive PoolState
  | active
  | retiring
deriving DecidableEq, Repr

/-- A pool record (R14). -/
structure Pool where
  state : PoolState
  allotment : Nat
  members : Nat
  balance : Int
  reserved : Nat
  usedPeriod : Nat
deriving DecidableEq, Repr

/-- A binding of the badge directory (R10). -/
structure Binding where
  code : Nat
  account : Nat
deriving DecidableEq, Repr

/-- The account directory: accounts, pools, and the bindings in the order they were bound. -/
structure Adir where
  accounts : Table Account
  pools : Table Pool
  badges : List Binding
deriving DecidableEq, Repr

/-- The quota settings (R20). -/
structure Qtu where
  monoWeight : Nat
  colourWeight : Nat
  periodLength : Nat
deriving DecidableEq, Repr

/-! ### The hold queue -/

/-- Size classes (R37); each counts 2, 4 or 8 quarters (R18, R106). -/
inductive SizeClass
  | small | standard | large
deriving DecidableEq, Repr

/-- A job's target (R37). -/
inductive Target
  | any
  | floor (f : Nat)
  | printer (p : Nat)
deriving DecidableEq, Repr

/-- What a grant leaves in the job record (R38): the assigned printer, the grant number and the reservation's two parts. -/
structure Grant where
  printer : Nat
  number : Nat
  accountPart : Nat
  poolPart : Nat
deriving DecidableEq, Repr

/-- The state of a live job, with the fields it makes present (R38). -/
inductive Stage
  | held
  | releasing (grant : Grant)
  | printing (grant : Grant) (accepted : Nat)
deriving DecidableEq, Repr

/-- A held-job record (R37), without its number, which is its index in the table. -/
structure Job where
  owner : Nat
  stage : Stage
  submitted : Nat
  expiry : Deadline
  mono : Nat
  colour : Nat
  size : SizeClass
  duplex : Bool
  target : Target
  reroutedFrom : Option Nat
  attempts : Nat
deriving DecidableEq, Repr

/-- The hold queue: jobs by job number (the job-number map, R39), the per-account lists (R40), the last number issued (R39),
and the hold time in hours (R54). -/
structure Hq where
  jobs : Table Job
  lists : Table (List Nat)
  lastJob : Nat
  holdHours : Nat
deriving DecidableEq, Repr

/-! ### The release unit -/

/-- The fields of an OPEN visit (R56). -/
structure OpenVisit where
  account : Nat
  menu : List Nat
  more : Nat
  cursor : Nat
  idle : Deadline
deriving DecidableEq, Repr

/-- The fields of a DRAINING visit (R56). -/
structure DrainVisit where
  account : Nat
  jobs : List Nat
  granted : Nat
  dropped : Nat
deriving DecidableEq, Repr

/-- A visit context that is not IDLE (R56). -/
inductive Visit
  | opened (visit : OpenVisit)
  | draining (visit : DrainVisit)
deriving DecidableEq, Repr

/-- An entry of a printer's in-flight list (R72): a job and its window, the grant window or the completion window. -/
structure InFlight where
  job : Nat
  window : Deadline
deriving DecidableEq, Repr

/-- The release unit: visit contexts and in-flight lists by printer index, the last grant number issued (R67), and the
release settings (R80). -/
structure Rlu where
  visits : Table Visit
  inFlight : Table (List InFlight)
  lastGrant : Nat
  idleTimeout : Nat
  grantWindow : Nat
  completionWindow : Nat
  maxAttempts : Nat
deriving DecidableEq, Repr

/-! ### Printers -/

/-- A set of conditions; bit n stands for the n-th condition of R85 (11.9). -/
abbrev CondSet := BitVec 7

/-- The causes a printer can be out of service for (R83). -/
inductive OutCause
  | fault (condition : Condition)
  | restartFailed
  | byRequest
deriving DecidableEq, Repr

/-- The service state of a printer that is not FREE (R84). OUT_OF_SERVICE has its cause, every other state the cause NONE
(R83); RETIRING keeps the uptime at which the retirement was accepted (R158; log 27). -/
inductive ServiceState
  | absent
  | inService
  | qualifying
  | restarting
  | outOfService (cause : OutCause)
  | retiring (accepted : Nat)
deriving DecidableEq, Repr

/-- A printer record (R83). -/
structure Printer where
  state : ServiceState
  present : Bool
  floor : Nat
  sibling : Option Nat
  colourCapable : Bool
  duplex : Bool
  largeTray : Bool
  modelGroup : Nat
  slotCount : Nat
  heartbeatTimeout : Nat
  autoReturn : Bool
  restartPermitted : Bool
  restartUsed : Bool
  live : CondSet
  latched : CondSet
  qualification : List (Condition × Deadline)
  heartbeat : Option Deadline
  absence : Option Deadline
  restart : Option Deadline
  restartCredit : Option Deadline
deriving DecidableEq, Repr

/-- The printer table and the health settings (R103). -/
structure Ptb where
  printers : Table Printer
  paperOut : Nat
  paperJam : Nat
  doorOpen : Nat
  fuser : Nat
  engine : Nat
  offline : Nat
  restartWindow : Nat
  absenceDelay : Nat
deriving DecidableEq, Repr

/-! ### Cartridges and stock -/

/-- The four slots of a printer, and the four colours of a cartridge. -/
inductive SlotLetter
  | k | c | m | y
deriving DecidableEq, Repr

/-- The level states of a fitted slot (R116). -/
inductive LevelState
  | ok | low | empty
deriving DecidableEq, Repr

/-- A fitted cartridge slot (R107); an unfitted slot holds nothing. -/
structure Slot where
  supplyType : Nat
  capacity : Nat
  remaining : Nat
  today : Nat
  average : Nat
  seeded : Bool
  level : Nat
  projected : Nat
  state : LevelState
  corrected : Bool
  sides : Nat
deriving DecidableEq, Repr

/-- The state of a supply type that is not FREE (R125). -/
inductive TypeState
  | active
  | retiring
deriving DecidableEq, Repr

/-- A supply-type record (R124). `reservations` is the reservation list, each entry the key of a slot, oldest first; reserved
is its length (R129). -/
structure SupplyType where
  state : TypeState
  colour : SlotLetter
  modelGroup : Nat
  ratedYield : Nat
  lowPercent : Nat
  leadDays : Nat
  safetyDays : Nat
  reorderQuantity : Nat
  minimumStock : Nat
  onHand : Nat
  reservations : List Nat
  onOrder : Nat
  overdue : Option Deadline
  overdueRaised : Bool
deriving DecidableEq, Repr

/-- The supply unit: fitted slots by slot key (printer times 4 plus slot, 11.9), supply types, and the smoothing shift (R120). -/
structure Spu where
  slots : Table Slot
  types : Table SupplyType
  shift : Nat
deriving DecidableEq, Repr

/-! ### Callouts -/

/-- The kinds of ticket and of cause (R142, R143). -/
inductive CauseKind
  | fault (condition : Condition)
  | restart
  | absence
  | supply (slot : SlotLetter)
deriving DecidableEq, Repr

/-- The states of an open ticket (R142). -/
inductive TicketState
  | waitingStock | dispatched | acknowledged
deriving DecidableEq, Repr

/-- An open ticket (R142). -/
structure Ticket where
  number : Nat
  printer : Nat
  kind : CauseKind
  state : TicketState
  level : Nat
  arisen : Nat
  opened : Nat
  deadline : Option Deadline
  holdsUnit : Bool
deriving DecidableEq, Repr

/-- An entry of the owed-callout backlog (R151). -/
structure OwedCause where
  printer : Nat
  kind : CauseKind
  owed : Nat
deriving DecidableEq, Repr

/-- The callout unit: open tickets in opening order, the backlog, the last number issued (R145), the settings (R154) and the
alarm condition (R152). -/
structure Cou where
  tickets : List Ticket
  backlog : List OwedCause
  lastTicket : Nat
  ack0 : Nat
  ack1 : Nat
  ack2 : Nat
  ack3 : Nat
  workTime : Nat
  alarmLevel : Nat
  alarm : Bool
deriving DecidableEq, Repr

/-! ### The clock -/

/-- The fleet clock (R168 to R171). Wall time is derived (R169). -/
structure Fck where
  uptime : Nat
  offset : Int
  clockSet : Bool
  roll : Option Deadline
  dayIndex : Nat
  countdown : Nat
deriving DecidableEq, Repr

/-! ### The fleet link -/

/-- A value of a reply or notice body (R187), by the kind that decides its bytes. -/
inductive Field
  /-- An optional value that is absent, or a field that does not apply: an item of length 0. -/
  | absent
  /-- An unsigned quantity, an index, a named value or a yes-or-no, in so many bytes. -/
  | uint (width value : Nat)
  /-- A signed quantity in so many bytes. -/
  | sint (width : Nat) (value : Int)
  /-- A compound value or a list, its parts already in bytes. -/
  | bytes (bytes : List Byte)
deriving DecidableEq, Repr

/-- The outcome codes of 11.9, in code order. -/
inductive ReplyOutcome
  | ok | noRecord | duplicate | full | state | range | quota | service | capability | supply | notPermitted | mismatch
  | busy | retiring | clockJump | noJobs | malformed
deriving DecidableEq, Repr

/-- A reply (R180): request code, outcome, echoed tag, result fields. -/
structure Reply where
  code : Nat
  outcome : ReplyOutcome
  tag : Tag
  body : List Field
deriving DecidableEq, Repr

/-- The notice kinds of 11.9, in code order from 1. -/
inductive NoticeKind
  | visitClosed | grant | jobRemoved | jobRerouted | jobSettled | quotaWarning | printerState | restartRequest | slotLevel
  | reorderDue | orderOverdue | calloutDispatch | calloutResolved | recordRetired | periodRolled | start
deriving DecidableEq, Repr

/-- A notice as a block raises it: its kind, the key of the record it concerns (11.9), and its content. -/
structure Raised where
  kind : NoticeKind
  key : Nat
  body : List Field
deriving DecidableEq, Repr

/-- A notice as LNK keeps it, with its changes count (R181). -/
structure Notice where
  notice : Raised
  changes : Nat
deriving DecidableEq, Repr

/-- The kinds of start (R184). -/
inductive StartKind
  | cold | warm | link
deriving DecidableEq, Repr

/-- The fleet link (R176 to R186): its queues, flags, lines, the retention flag, and the two input conditions it answers to,
main power and LINK_RESET. `dataOut` holds the bytes the port returned in the latest transaction (log 8). -/
structure Lnk where
  requests : List Entry
  replies : List Reply
  notices : List Notice
  owed : List Notice
  mask : BitVec 8
  inboxOverrun : Bool
  noticesLost : Bool
  startKind : StartKind
  retention : Bool
  mainPower : Bool
  linkResetHeld : Bool
  ready : Bool
  attn : Bool
  alarm : Bool
  dataOut : List Byte
deriving DecidableEq, Repr

/-! ### The whole -/

/-- The records of the eight blocks behind the link. -/
structure Records where
  adir : Adir
  qtu : Qtu
  hq : Hq
  rlu : Rlu
  ptb : Ptb
  spu : Spu
  cou : Cou
  fck : Fck
deriving DecidableEq, Repr

/-- The state of the machine: the records, the link, and the commands that wait, first in, first out (log 1). -/
structure State extends Records where
  lnk : Lnk
  pending : List Instr
deriving DecidableEq, Repr

/-- The manual describes no fault that stops the part (INVENTORY.md, Faults); no step raises one. -/
inductive Fault
deriving DecidableEq, Repr

/-- Why the model gives no answer. -/
inductive Refusal
  /-- Raised only by an arm of `exec` whose command has no meaning yet; no arm is such. Safe: nothing is claimed of it. -/
  | notModelled (mnemonic : String)
deriving DecidableEq, Repr

/-- The records after a cold start (R17, R35, R55, R82, R104, R103, R122, R141, R156, R174). -/
def Records.cold : Records where
  adir := { accounts := [], pools := [], badges := [] }
  qtu := { monoWeight := 2, colourWeight := 8, periodLength := 30 }
  hq := { jobs := [], lists := [], lastJob := 0, holdHours := 24 }
  rlu :=
    { visits := [], inFlight := [], lastGrant := 0, idleTimeout := 60, grantWindow := 120, completionWindow := 3600,
      maxAttempts := 3 }
  ptb :=
    { printers := [], paperOut := 300, paperJam := 120, doorOpen := 180, fuser := 30, engine := 30, offline := 60,
      restartWindow := 600, absenceDelay := 900 }
  spu := { slots := [], types := [], shift := 3 }
  cou :=
    { tickets := [], backlog := [], lastTicket := 0, ack0 := 1800, ack1 := 1800, ack2 := 3600, ack3 := 3600,
      workTime := 14400, alarmLevel := 2, alarm := false }
  fck := { uptime := 0, offset := 0, clockSet := false, roll := none, dayIndex := 0, countdown := 30 }

/-- The START notice of a cold start at uptime 0 (R185): start kind, uptime and clock-set flag; the two counts that only a
warm start carries are absent. -/
def Raised.coldStart : Raised :=
  { kind := .start, key := 0, body := [.uint 1 0, .uint 4 0, .uint 1 0, .absent, .absent] }

/-- The machine right after reset: a cold start has been made and the link prepared (R185; log 6). Its START notice waits, so
READY and ATTN are asserted. -/
def State.reset : State where
  toRecords := Records.cold
  lnk :=
    { requests := [], replies := [], notices := [{ notice := Raised.coldStart, changes := 0 }], owed := [],
      mask := 0x7F, inboxOverrun := false, noticesLost := false, startKind := .cold, retention := true, mainPower := true,
      linkResetHeld := false, ready := true, attn := true, alarm := false, dataOut := [] }
  pending := []

end Sys2Proof.Machine
end

