-- ==== Sys2Proof/Machine/Operands.lean ====
section
/-! DEFINITION. How the values of a request are read, and how the values of a reply, a notice and a record are laid out in
bytes (11.8, 11.9). -/

namespace Sys2Proof.Machine

/-! ### Reading a request's values -/

/-- A quantity described as clamped is brought to the nearest end of its range (00 "Numbers and ranges"). -/
def clamp (low high v : Nat) : Nat := max low (min high v)

/-- A selected setting is clamped and replaces the stored one; an unselected one keeps its value. -/
def selected (low high stored : Nat) : Option Nat → Nat
  | none => stored
  | some v => clamp low high v

/-- A yes-or-no byte; above 1 it names nothing (R187). -/
def yesNo? : Nat → Option Bool
  | 0 => some false
  | 1 => some true
  | _ => none

/-- Whether every byte of the list is a yes-or-no byte (R187). -/
def yesNos (bytes : List Nat) : Bool := bytes.all (fun b => (yesNo? b).isSome)

/-- A yes-or-no byte already checked. -/
def yes (byte : Nat) : Bool := byte == 1

/-- A selected yes-or-no setting, already checked. -/
def selectedYes (stored : Bool) : Option Nat → Bool
  | none => stored
  | some v => yes v

/-- The size classes in the order of R37. -/
def sizeClass? : Nat → Option SizeClass
  | 0 => some .small
  | 1 => some .standard
  | 2 => some .large
  | _ => none

/-- A target: its kind (ANY 0, FLOOR 1, PRINTER 2) and its number, with the ranges of R41 step 1. The number byte of ANY is not
looked at (log 36). -/
def target? (kind number : Nat) : Option Target :=
  match kind with
  | 0 => some .any
  | 1 => if number < Config.floors then some (.floor number) else none
  | 2 => if number < Config.printers then some (.printer number) else none
  | _ => none

/-- The slot letters in the order of R119. -/
def slotLetter? : Nat → Option SlotLetter
  | 0 => some .k
  | 1 => some .c
  | 2 => some .m
  | 3 => some .y
  | _ => none

/-- A condition set; a byte with its top bit set names none (R187). -/
def condSet? (byte : Nat) : Option CondSet := if byte < 128 then some (BitVec.ofNat 7 byte) else none

/-- A toner sensor reading, OK, LOW or OUT in the order of R87. -/
inductive Reading
  | ok | low | out
deriving DecidableEq, Repr

def reading? : Nat → Option Reading
  | 0 => some .ok
  | 1 => some .low
  | 2 => some .out
  | _ => none

/-! ### Numbers of named values (R187: from 0 in the order their rule lists them) -/

def SizeClass.code : SizeClass → Nat
  | .small => 0
  | .standard => 1
  | .large => 2

def SlotLetter.code : SlotLetter → Nat
  | .k => 0
  | .c => 1
  | .m => 2
  | .y => 3

def conditionCode : Condition → Nat
  | .paperLow => 0
  | .paperOut => 1
  | .paperJam => 2
  | .doorOpen => 3
  | .fuser => 4
  | .engine => 5
  | .offline => 6

def AccountState.code : AccountState → Nat
  | .active => 1
  | .suspended => 2
  | .retiring _ => 3

def PoolState.code : PoolState → Nat
  | .active => 1
  | .retiring => 2

def Stage.code : Stage → Nat
  | .held => 0
  | .releasing _ => 1
  | .printing _ _ => 2

def ServiceState.code : ServiceState → Nat
  | .absent => 1
  | .inService => 2
  | .qualifying => 3
  | .restarting => 4
  | .outOfService _ => 5
  | .retiring _ => 6

def LevelState.code : LevelState → Nat
  | .ok => 0
  | .low => 1
  | .empty => 2

def TypeState.code : TypeState → Nat
  | .active => 1
  | .retiring => 2

def TicketState.code : TicketState → Nat
  | .waitingStock => 0
  | .dispatched => 1
  | .acknowledged => 2

def CauseKind.code : CauseKind → Nat
  | .fault _ => 0
  | .restart => 1
  | .absence => 2
  | .supply _ => 3

def ReplyOutcome.code : ReplyOutcome → Nat
  | .ok => 0x00
  | .noRecord => 0x01
  | .duplicate => 0x02
  | .full => 0x03
  | .state => 0x04
  | .range => 0x05
  | .quota => 0x06
  | .service => 0x07
  | .capability => 0x08
  | .supply => 0x09
  | .notPermitted => 0x0A
  | .mismatch => 0x0B
  | .busy => 0x0C
  | .retiring => 0x0D
  | .clockJump => 0x0E
  | .noJobs => 0x0F
  | .malformed => 0x10

def NoticeKind.code : NoticeKind → Nat
  | .visitClosed => 0x01
  | .grant => 0x02
  | .jobRemoved => 0x03
  | .jobRerouted => 0x04
  | .jobSettled => 0x05
  | .quotaWarning => 0x06
  | .printerState => 0x07
  | .restartRequest => 0x08
  | .slotLevel => 0x09
  | .reorderDue => 0x0A
  | .orderOverdue => 0x0B
  | .calloutDispatch => 0x0C
  | .calloutResolved => 0x0D
  | .recordRetired => 0x0E
  | .periodRolled => 0x0F
  | .start => 0x10

/-- The class of a notice kind (11.9), as the bit of the attention mask that enables it: JOBS 0, VISITS 1, QUOTA 2, PRINTERS 3,
SUPPLY 4, CALLOUTS 5, ADMIN 6. -/
def NoticeKind.classBit : NoticeKind → Nat
  | .visitClosed => 1
  | .grant => 0
  | .jobRemoved => 0
  | .jobRerouted => 0
  | .jobSettled => 0
  | .quotaWarning => 2
  | .printerState => 3
  | .restartRequest => 3
  | .slotLevel => 4
  | .reorderDue => 4
  | .orderOverdue => 4
  | .calloutDispatch => 5
  | .calloutResolved => 5
  | .recordRetired => 6
  | .periodRolled => 2
  | .start => 6

def StartKind.code : StartKind → Nat
  | .cold => 0
  | .warm => 1
  | .link => 2

/-- The key of a slot: the printer index times 4 plus the slot (11.9). -/
def slotKey (printer : Nat) (slot : SlotLetter) : Nat := printer * 4 + slot.code

/-! ### Laying out values in bytes (11.9: most significant byte first) -/

/-- The bytes of a field's value; a signed value in two's complement (R187). -/
def Field.encode : Field → List Byte
  | .absent => []
  | .uint w v => beBytes w v
  | .sint w v => beBytes w (v % (256 ^ w : Nat)).toNat
  | .bytes b => b

/-- The field-length byte; what it says of a value longer than 255 bytes is free (log 19). -/
def lengthByte (n : Nat) : Byte := if n < 256 then BitVec.ofNat 8 n else Config.overlongLength n

/-- The field item of that number (11.9). -/
def encodeItem (number : Nat) (f : Field) : List Byte :=
  BitVec.ofNat 8 number :: lengthByte f.encode.length :: f.encode

/-- A body: its fields numbered from 1 (R187). -/
def encodeBody (fields : List Field) : List Byte := (fields.zipIdx 1).flatMap (fun f => encodeItem f.2 f.1)

/-- The bytes of a record: its type, its length, and what follows (11.9). -/
def encodeRecord (type : Nat) (rest : List Byte) : List Byte := beBytes 1 type ++ beBytes 2 rest.length ++ rest

/-- A NONE record: the byte 0x00 and a record length of 0 (11.9). -/
def noneRecord : List Byte := [0, 0, 0]

/-- A reply record (11.9). -/
def Reply.record (r : Reply) : List Byte :=
  encodeRecord 1
    (beBytes 1 r.code ++ beBytes 1 r.outcome.code ++ beBytes 1 r.tag.length ++ r.tag ++ encodeBody r.body)

/-- A notice record (11.9). -/
def Notice.record (n : Notice) : List Byte :=
  encodeRecord 2
    (beBytes 1 n.notice.kind.code ++ beBytes 1 n.notice.kind.classBit ++ beBytes 1 n.changes ++ beBytes 4 n.notice.key
      ++ encodeBody n.notice.body)

/-! ### Field values by kind -/

def u8 (v : Nat) : Field := .uint 1 v
def u16 (v : Nat) : Field := .uint 2 v
def u32 (v : Nat) : Field := .uint 4 v
def u40 (v : Nat) : Field := .uint 5 v
def s32 (v : Int) : Field := .sint 4 v
def s48 (v : Int) : Field := .sint 6 v
def flag (b : Bool) : Field := .uint 1 b.toNat

/-- An optional value: an item of length 0 where it is absent (R187). -/
def opt {α : Type} (f : α → Field) : Option α → Field
  | none => .absent
  | some v => f v

/-- A deadline's uptime value. -/
def deadlineField (d : Deadline) : Field := u32 d.value

/-- A list: its elements' bytes in order. -/
def listField {α : Type} (f : α → List Field) (l : List α) : Field :=
  .bytes (l.flatMap (fun e => (f e).flatMap Field.encode))

/-- An optional part of a compound value or list element: 0 or 1, then the part in full width, zero when absent (R187). -/
def optPart (width : Nat) : Option Nat → List Field
  | none => [.uint 1 0, .uint width 0]
  | some v => [.uint 1 1, .uint width v]

/-- A compound value: its parts in order. -/
def compound (parts : List Field) : Field := .bytes (parts.flatMap Field.encode)

/-- A target: one byte of its kind, one of its number, 0 for ANY (R187). -/
def targetParts : Target → List Field
  | .any => [.uint 1 0, .uint 1 0]
  | .floor f => [.uint 1 1, .uint 1 f]
  | .printer p => [.uint 1 2, .uint 1 p]

/-- The condition or slot letter of a cause's kind. -/
def CauseKind.detail : CauseKind → Option Nat
  | .fault c => some (conditionCode c)
  | .restart => none
  | .absence => none
  | .supply l => some l.code

/-- A kind with its condition or slot letter, as one compound value (log 17). -/
def kindParts (k : CauseKind) : List Field := .uint 1 k.code :: optPart 1 k.detail

/-- The out-of-service cause of a state: NONE 0, FAULT 1 with its condition, RESTART_FAILED 2, BY_REQUEST 3 (R83). -/
def causeParts : ServiceState → List Field
  | .outOfService (.fault c) => .uint 1 1 :: optPart 1 (some (conditionCode c))
  | .outOfService .restartFailed => .uint 1 2 :: optPart 1 none
  | .outOfService .byRequest => .uint 1 3 :: optPart 1 none
  | _ => .uint 1 0 :: optPart 1 none

def condSetField (c : CondSet) : Field := u8 c.toNat

end Sys2Proof.Machine
end

