-- ==== Sys2Proof/Machine/Flags.lean ====
section
/-! DEFINITION. The output lines READY, ATTN and ALARM and the flags byte of the link status record (11 "The port and its
lines", R183, R184). The lines are settled at the end of every command (log 35). -/

namespace Sys2Proof.Machine

/-- READY: at least 4 request-queue entries are free and no link reset is in progress; deasserted while main power is off. -/
def readyLine (l : Lnk) : Bool :=
  l.mainPower && !l.linkResetHeld && decide (l.requests.length + Config.readyRoom ≤ Config.requestQueue)

/-- A queued notice belongs to an enabled class (R183). -/
def noticeEnabled (mask : BitVec 8) (n : Notice) : Bool := mask.getLsbD n.notice.kind.classBit

/-- ATTN: a reply waits, or a queued notice of an enabled class; deasserted while main power is off. Owed notices do not
count (R183). -/
def attnLine (l : Lnk) : Bool := l.mainPower && (!l.replies.isEmpty || l.notices.any (noticeEnabled l.mask))

/-- ALARM follows COU's alarm condition; deasserted while main power is off (R183). -/
def alarmLine (condition : Bool) (l : Lnk) : Bool := l.mainPower && condition

/-- The lines take the values their rules give. -/
def Lnk.settleLines (l : Lnk) (condition : Bool) : Lnk :=
  { l with ready := readyLine l, attn := attnLine l, alarm := alarmLine condition l }

/-- The lines of the whole part settle. -/
def State.settleLines (s : State) : State := { s with lnk := s.lnk.settleLines s.cou.alarm }

/-- The flags byte of the link status record (11.9). -/
def statusFlags (l : Lnk) (clockSet : Bool) : Nat :=
  l.inboxOverrun.toNat + 2 * l.noticesLost.toNat + 4 * clockSet.toNat + 8 * l.ready.toNat + 16 * l.attn.toNat
    + 32 * l.alarm.toNat

end Sys2Proof.Machine
end

