-- ==== Sys2Proof/Machine/Ops.lean ====
section
/-! DEFINITION. The operations every block shares: tables, deadlines, the work of one handling, the notices it raises and how
LNK places them (R181), and how a request is taken and answered (R179).

A handling works on `Work`: the records, the notices raised so far in their order, and the supply types that stood in DUE when
SPU's handling began (R133). Only when it ends are its notices placed and its reply queued, so no block reads the link. -/

namespace Sys2Proof.Machine

/-! ### Tables -/

/-- The record at an index, where there is one. -/
def Table.lookup {α : Type} : Table α → Nat → Option α
  | [], _ => none
  | (k, v) :: rest, i => if k = i then some v else Table.lookup rest i

/-- Write the record at an index, keeping the indices rising. -/
def Table.put {α : Type} : Table α → Nat → α → Table α
  | [], i, v => [(i, v)]
  | (k, w) :: rest, i, v =>
    if i < k then (i, v) :: (k, w) :: rest
    else if i = k then (i, v) :: rest
    else (k, w) :: Table.put rest i v

/-- Take the record at an index out. -/
def Table.remove {α : Type} (t : Table α) (i : Nat) : Table α := t.filter (fun e => e.1 != i)

/-- The indices that hold a record, rising. -/
def Table.indices {α : Type} (t : Table α) : List Nat := t.map (·.1)

/-- A list kept per index; an index that is not listed has the empty list. -/
def Table.list {α : Type} (t : Table (List α)) (i : Nat) : List α := (t.lookup i).getD []

/-- Write the list of an index; an empty list is not listed. -/
def Table.putList {α : Type} (t : Table (List α)) (i : Nat) (l : List α) : Table (List α) :=
  if l.isEmpty then t.remove i else t.put i l

/-! ### Deadlines (R168) -/

/-- A deadline armed at an uptime value: a value above the last uptime is stored as it, and one armed while uptime stands there
never falls due. -/
def armAt (now value : Nat) : Deadline :=
  { value := min value Config.maxCount, dormant := decide (Config.maxCount ≤ now) }

/-- A deadline armed at the current uptime plus a duration. -/
def arm (now duration : Nat) : Deadline := armAt now (now + duration)

/-- Uptime has reached the deadline. -/
def Deadline.reached (d : Deadline) (now : Nat) : Bool := !d.dormant && decide (d.value ≤ now)

/-- A deadline is held and has been reached. -/
def reached? (d : Option Deadline) (now : Nat) : Bool :=
  match d with
  | none => false
  | some d => d.reached now

/-- The number after `last`, from 1 to `top`, passing over the numbers in use (R39, R145). There are more numbers than can be in
use, so the search ends before its fuel does. -/
def nextFree (top : Nat) (used : List Nat) : Nat → Nat → Nat
  | 0, last => if last < top then last + 1 else 1
  | fuel + 1, last =>
    let n := if last < top then last + 1 else 1
    if used.contains n then nextFree top used fuel n else n

/-! ### The work of one handling -/

/-- The records under one handling, the notices it has raised, and the supply types that were DUE when SPU's handling began. -/
structure Work extends Records where
  raised : List Raised
  due : List Nat
deriving DecidableEq, Repr

/-- The uptime at which the handling is taken. -/
def Work.now (w : Work) : Nat := w.fck.uptime

/-- Raise a notice (R181). -/
def Work.raise (w : Work) (kind : NoticeKind) (key : Nat) (body : List Field) : Work :=
  { w with raised := w.raised ++ [{ kind, key, body }] }

/-! Writing one record. -/

def Work.setAccount (w : Work) (i : Nat) (a : Account) : Work :=
  { w with adir := { w.adir with accounts := w.adir.accounts.put i a } }

def Work.dropAccount (w : Work) (i : Nat) : Work :=
  { w with adir := { w.adir with accounts := w.adir.accounts.remove i } }

def Work.setPool (w : Work) (i : Nat) (p : Pool) : Work :=
  { w with adir := { w.adir with pools := w.adir.pools.put i p } }

def Work.dropPool (w : Work) (i : Nat) : Work :=
  { w with adir := { w.adir with pools := w.adir.pools.remove i } }

def Work.setBadges (w : Work) (b : List Binding) : Work := { w with adir := { w.adir with badges := b } }

def Work.setJob (w : Work) (n : Nat) (j : Job) : Work := { w with hq := { w.hq with jobs := w.hq.jobs.put n j } }

def Work.dropJob (w : Work) (n : Nat) : Work := { w with hq := { w.hq with jobs := w.hq.jobs.remove n } }

def Work.setJobList (w : Work) (a : Nat) (l : List Nat) : Work :=
  { w with hq := { w.hq with lists := w.hq.lists.putList a l } }

def Work.setVisit (w : Work) (p : Nat) (v : Visit) : Work :=
  { w with rlu := { w.rlu with visits := w.rlu.visits.put p v } }

def Work.dropVisit (w : Work) (p : Nat) : Work :=
  { w with rlu := { w.rlu with visits := w.rlu.visits.remove p } }

def Work.setInFlight (w : Work) (p : Nat) (l : List InFlight) : Work :=
  { w with rlu := { w.rlu with inFlight := w.rlu.inFlight.putList p l } }

def Work.setPrinter (w : Work) (p : Nat) (r : Printer) : Work :=
  { w with ptb := { w.ptb with printers := w.ptb.printers.put p r } }

def Work.dropPrinter (w : Work) (p : Nat) : Work :=
  { w with ptb := { w.ptb with printers := w.ptb.printers.remove p } }

def Work.setSlot (w : Work) (key : Nat) (s : Slot) : Work :=
  { w with spu := { w.spu with slots := w.spu.slots.put key s } }

def Work.dropSlot (w : Work) (key : Nat) : Work :=
  { w with spu := { w.spu with slots := w.spu.slots.remove key } }

def Work.setType (w : Work) (i : Nat) (t : SupplyType) : Work :=
  { w with spu := { w.spu with types := w.spu.types.put i t } }

def Work.dropType (w : Work) (i : Nat) : Work :=
  { w with spu := { w.spu with types := w.spu.types.remove i } }

def Work.setTickets (w : Work) (l : List Ticket) : Work := { w with cou := { w.cou with tickets := l } }

def Work.setBacklog (w : Work) (l : List OwedCause) : Work := { w with cou := { w.cou with backlog := l } }

/-- Change the record of an account that is not FREE. -/
def Work.updateAccount (w : Work) (i : Nat) (f : Account → Account) : Work :=
  match w.adir.accounts.lookup i with
  | none => w
  | some a => w.setAccount i (f a)

/-- Change the record of a pool that is not FREE. -/
def Work.updatePool (w : Work) (i : Nat) (f : Pool → Pool) : Work :=
  match w.adir.pools.lookup i with
  | none => w
  | some p => w.setPool i (f p)

/-- Change the record of a printer that is not FREE. -/
def Work.updatePrinter (w : Work) (i : Nat) (f : Printer → Printer) : Work :=
  match w.ptb.printers.lookup i with
  | none => w
  | some p => w.setPrinter i (f p)

/-! ### Notices (R181) -/

/-- Two notices have one key. -/
def sameKey (r : Raised) (n : Notice) : Bool := decide (n.notice.kind = r.kind) && n.notice.key == r.key

/-- A standing notice takes the new content in place; its changes count rises by 1 and saturates at 255 (R181 step 1). -/
def coalesce (r : Raised) (n : Notice) : Notice :=
  if sameKey r n then { notice := r, changes := min (n.changes + 1) 255 } else n

/-- LNK places a notice by its key (R181). -/
def Lnk.place (l : Lnk) (r : Raised) : Lnk :=
  if l.notices.any (sameKey r) then { l with notices := l.notices.map (coalesce r) }
  else if l.owed.any (sameKey r) then { l with owed := l.owed.map (coalesce r) }
  else if l.notices.length < Config.noticeQueue ∧ l.owed.isEmpty then
    { l with notices := l.notices ++ [{ notice := r, changes := 0 }] }
  else if l.owed.length < Config.owedNotices then { l with owed := l.owed ++ [{ notice := r, changes := 0 }] }
  else { l with noticesLost := true }

/-- The notices of a handling are placed in the order they were raised. -/
def Lnk.placeAll (l : Lnk) (rs : List Raised) : Lnk := rs.foldl Lnk.place l

/-- The notice queue has room for a GRANT notice (R70). -/
def Lnk.grantRoom (l : Lnk) : Bool := decide (l.notices.length < Config.noticeQueue) && l.owed.isEmpty

/-! ### Derived numbers of the supply unit (R132, R133) -/

/-- Reserved is the length of the reservation list (R129). -/
def SupplyType.reserved (t : SupplyType) : Nat := t.reservations.length

/-- Free stock: on hand less reserved (07 7.1). -/
def SupplyType.free (t : SupplyType) : Nat := t.onHand - t.reserved

/-- A fitted slot counts in demand: LOW or EMPTY, without a reserved unit (R132). -/
def countsInDemand (i : Nat) (t : SupplyType) (e : Nat × Slot) : Bool :=
  e.2.supplyType == i && decide (e.2.state ≠ .ok) && !t.reservations.contains e.1

/-- A type's demand (R132). -/
def demand (r : Records) (i : Nat) (t : SupplyType) : Nat := (r.spu.slots.filter (countsInDemand i t)).length

/-- Position: on hand less reserved plus on order (R133). -/
def SupplyType.position (t : SupplyType) : Int := (t.onHand : Int) - t.reserved + t.onOrder

/-- Need: demand plus minimum stock (R133). -/
def need (r : Records) (i : Nat) (t : SupplyType) : Nat := demand r i t + t.minimumStock

/-- The order state (R133). -/
inductive OrderState
  | idle | ordered | due
deriving DecidableEq, Repr

/-- The number of an order state: in the order in which R124 lists the three; R133's table lists them the other way round
(log 17). -/
def OrderState.code : OrderState → Nat
  | .idle => 0
  | .ordered => 1
  | .due => 2

def orderState (r : Records) (i : Nat) (t : SupplyType) : OrderState :=
  if t.position < need r i t then .due else if 0 < t.onOrder then .ordered else .idle

/-- The types that stand in DUE. -/
def dueTypes (r : Records) : List Nat :=
  (r.spu.types.filter (fun e => decide (orderState r e.1 e.2 = .due))).map (·.1)

/-! ### Taking a command -/

/-- The work of a handling that is about to begin. -/
def State.work (s : State) : Work := { s.toRecords with raised := [], due := dueTypes s.toRecords }

/-- The state a handling leaves: its records, its notices placed in order, the lines settled. -/
def State.commit (s : State) (w : Work) : State :=
  { s with toRecords := w.toRecords, lnk := (s.lnk.placeAll w.raised).settleLines w.cou.alarm }

/-- An event at a block (R168, R179): while main power is on it is taken as one handling. While main power is off nothing is
taken (R185). -/
def takeEvent (f : Work → Work) (s : State) : State := if s.lnk.mainPower then s.commit (f s.work) else s

/-- What a block answers: the outcome and the result fields. -/
structure Answer where
  outcome : ReplyOutcome
  body : List Field
deriving DecidableEq, Repr

/-- An outcome with result fields. -/
def answer (o : ReplyOutcome) (body : List Field) : Answer := { outcome := o, body }

/-- A refusal that names no fields has an empty body (R187). -/
def refuse (o : ReplyOutcome) : Answer := { outcome := o, body := [] }

/-- A handling that refuses: the records as they are, and the outcome alone. -/
def Work.refuse (w : Work) (o : ReplyOutcome) : Work × Answer := (w, Machine.refuse o)

/-- A handling that succeeds: OK with the result fields. -/
def Work.ok (w : Work) (body : List Field) : Work × Answer := (w, answer .ok body)

/-- A reply joins the tail of the reply queue (R179). -/
def Lnk.reply (l : Lnk) (r : Reply) : Lnk := { l with replies := l.replies ++ [r] }

/-- The reply queue has room for one more reply (R179). -/
def Lnk.replyRoom (l : Lnk) : Bool := decide (l.replies.length < Config.replyQueue)

/-- A request is carried out as one handling and makes exactly one reply (R179). -/
def carryOut (code : Nat) (tag : Tag) (h : Work → Work × Answer) (s : State) : State :=
  let r := h s.work
  let reply : Reply := { code, outcome := r.2.outcome, tag, body := r.2.body }
  { s with
    toRecords := r.1.toRecords
    lnk := ((s.lnk.placeAll r.1.raised).reply reply).settleLines r.1.cou.alarm }

/-- A request is taken (R179; log 3): the entry at the head of the request queue when the reply queue has room. Where the queue is
empty, the command stands for a frame that holds this request alone: the request is taken at once, or waits at the head while
the reply queue is full. Behind another entry it is not taken, and while main power is off no request reaches any block. -/
def takeRequest (command : Instr) (code : Nat) (tag : Tag) (h : Work → Work × Answer) (s : State) : State :=
  if !s.lnk.mainPower then s
  else match s.lnk.requests with
  | [] =>
    if s.lnk.linkResetHeld then s
    else if s.lnk.replyRoom then carryOut code tag h s
    else State.settleLines { s with lnk := { s.lnk with requests := [.request command] } }
  | entry :: rest =>
    if entry = .request command ∧ s.lnk.replyRoom then
      carryOut code tag h { s with lnk := { s.lnk with requests := rest } }
    else s

/-- A request that changes no record (a read): its answer comes from the records as they stand when it is taken. -/
def reads (f : Records → Answer) (w : Work) : Work × Answer := (w, f w.toRecords)

end Sys2Proof.Machine
end

