-- ==== Sys2Proof/Machine/QuotaOps.lean ====
section
/-! DEFINITION. QTU's arithmetic (02): charges, available points, the quota warning, reservation, refund, settlement, and its
work at a day roll and a period roll. -/

namespace Sys2Proof.Machine

/-- The quarters of a size class (R18, R106). -/
def SizeClass.quarters : SizeClass → Nat
  | .small => 2
  | .standard => 4
  | .large => 8

/-- The charge of a job: the weighted sum times the quarters, over 4, any fraction rounded up (R18). -/
def charge (q : Qtu) (mono colour : Nat) (size : SizeClass) : Nat :=
  ((mono * q.monoWeight + colour * q.colourWeight) * size.quarters + 3) / 4

/-- Available points of an account: balance less reserved plus overdraft (R19). -/
def Account.available (a : Account) : Int := a.balance - a.reserved + a.overdraft

/-- Available points of a pool: balance less reserved (R19). -/
def Pool.available (p : Pool) : Int := p.balance - p.reserved

/-- A counter that saturates (R25, R110). -/
def saturate (n : Nat) : Nat := min n Config.maxCount

/-- The warn state an evaluation leaves (R27). -/
def warnStateAfter (a : Account) : Bool :=
  if a.warned then !(decide ((a.warnHigh : Int) ≤ a.available) && decide ((a.warnLow : Int) < a.available))
  else decide (a.available ≤ a.warnLow)

/-- QTU evaluates an account's warning; a change of warn state raises QUOTA_WARNING (R27). -/
def evaluateWarning (i : Nat) (w : Work) : Work :=
  match w.adir.accounts.lookup i with
  | none => w
  | some a =>
    if warnStateAfter a = a.warned then w
    else (w.setAccount i { a with warned := warnStateAfter a }).raise .quotaWarning i
      [u16 i, flag (warnStateAfter a), s32 a.available, s32 a.balance]

/-! ### Reservation (R21) -/

/-- The account part: the charge or the available points, whichever is smaller, and not less than 0 (R21). -/
def accountPart (a : Account) (c : Nat) : Nat := (min (c : Int) a.available).toNat

/-- The available points of the pool an account names; none where it names no pool. -/
def poolAvailable (r : Records) (a : Account) : Option Int :=
  match a.pool with
  | none => none
  | some p => (r.adir.pools.lookup p).map Pool.available

/-- Whether the pool part can be drawn: it is 0, or the account's pool has that many points available (R21). -/
def poolCovers (r : Records) (a : Account) (part : Nat) : Bool :=
  part == 0 || (match poolAvailable r a with
    | none => false
    | some v => decide ((part : Int) ≤ v))

/-- The shortfall of a failed reservation: the pool part less the pool's available points, or the whole pool part where the
account names no pool (R21). -/
def shortfall (r : Records) (a : Account) (part : Nat) : Int :=
  match poolAvailable r a with
  | none => part
  | some v => (part : Int) - v

/-- The reserved points of an account, and of the pool it names, change by the parts of one reservation (R21, R23, R25). -/
def changeReserved (i accountPart poolPart : Nat) (f : Nat → Nat → Nat) (w : Work) : Work :=
  match w.adir.accounts.lookup i with
  | none => w
  | some a =>
    let w' := w.setAccount i { a with reserved := f a.reserved accountPart }
    match a.pool with
    | none => w'
    | some p => w'.updatePool p (fun q => { q with reserved := f q.reserved poolPart })

/-- A reservation that succeeds: both reserved totals rise by their parts, and the warning is evaluated (R21). -/
def reserve (i accountPart poolPart : Nat) (w : Work) : Work :=
  evaluateWarning i (changeReserved i accountPart poolPart (· + ·) w)

/-- A refund ends a reservation without a charge (R23). -/
def refund (i : Nat) (g : Grant) (w : Work) : Work :=
  evaluateWarning i (changeReserved i g.accountPart g.poolPart (· - ·) w)

/-! ### Settlement (R24, R25) -/

/-- The settled account part and pool part of a charge `a` against a reservation (R24). -/
def settledParts (g : Grant) (a : Nat) : Nat × Nat :=
  let r := g.accountPart + g.poolPart
  if a ≤ r then
    let surplus := r - a
    let pool := g.poolPart - surplus
    (g.accountPart - (surplus - (g.poolPart - pool)), pool)
  else (g.accountPart + (a - r), g.poolPart)

/-- A balance lowered by a settlement saturates at the lower bound (R25, R26). -/
def lower (balance : Int) (points : Nat) : Int := max Config.minBalance (balance - points)

/-- QTU posts a settlement of charge `a` to the account and its pool (R25). -/
def postSettlement (i : Nat) (g : Grant) (a : Nat) (w : Work) : Work :=
  match w.adir.accounts.lookup i with
  | none => w
  | some acct =>
    let parts := settledParts g a
    let w1 := w.setAccount i
      { acct with
        balance := lower acct.balance parts.1
        reserved := acct.reserved - g.accountPart
        usedPeriod := saturate (acct.usedPeriod + a)
        today := saturate (acct.today + a) }
    let w2 := match acct.pool with
      | none => w1
      | some p => w1.updatePool p (fun q =>
          { q with
            balance := lower q.balance parts.2
            reserved := q.reserved - g.poolPart
            usedPeriod := saturate (q.usedPeriod + parts.2) })
    evaluateWarning i w2

/-! ### Credits (R26, R29, R30) -/

/-- A balance after a credit, saturating at both bounds (R26). -/
def credited (balance amount : Int) : Int := max Config.minBalance (min Config.maxBalance (balance + amount))

/-! ### Day roll and period roll (R31, R33, R34) -/

/-- QTU's day roll: today's use moves into the peak where it is larger, and is cleared (R31). -/
def quotaDayRoll (w : Work) : Work :=
  { w with adir := { w.adir with
      accounts := w.adir.accounts.map (fun e => (e.1, { e.2 with peak := max e.2.peak e.2.today, today := 0 })) } }

/-- A replenished balance: raised by the allotment up to twice the allotment, and never lowered (R33). -/
def replenished (balance : Int) (allotment : Nat) : Int :=
  max balance (min (balance + allotment) (2 * allotment))

/-- Replenish one account, clear its used-this-period counter, and evaluate its warning (R33, R34). -/
def replenishAccount (w : Work) (i : Nat) : Work :=
  evaluateWarning i
    (w.updateAccount i (fun a => { a with balance := replenished a.balance a.allotment, usedPeriod := 0 }))

/-- Replenish one pool and clear its used-this-period counter (R33, R34). -/
def replenishPool (p : Pool) : Pool := { p with balance := replenished p.balance p.allotment, usedPeriod := 0 }

/-- QTU's period roll, and its one PERIOD_ROLLED notice (R33, R34). Accounts are taken by rising index (log 11). -/
def periodRoll (dayIndex : Nat) (w : Work) : Work :=
  let w1 := w.adir.accounts.indices.foldl replenishAccount w
  let w2 : Work := { w1 with adir := { w1.adir with pools := w1.adir.pools.map (fun e => (e.1, replenishPool e.2)) } }
  w2.raise .periodRolled 0
    [u16 dayIndex, u32 w2.adir.accounts.length, u32 w2.adir.pools.length]

end Sys2Proof.Machine
end

