-- ==== Sys2Proof/Machine/VisitOps.lean ====
section
/-! DEFINITION. RLU's tests and RLU's keeping of visits (04): eligibility, the menu and its cursor, and how a visit closes. -/

namespace Sys2Proof.Machine

/-- The failure classes of R58. -/
inductive Failure
  | state | capability | notPermitted | supply
deriving DecidableEq, Repr

def Failure.outcome : Failure → ReplyOutcome
  | .state => .state
  | .capability => .capability
  | .notPermitted => .notPermitted
  | .supply => .supply

/-- A slot is fitted and not EMPTY (R58). -/
def slotUsable (r : Records) (printer : Nat) (slot : SlotLetter) : Bool :=
  match r.spu.slots.lookup (slotKey printer slot) with
  | none => false
  | some s => decide (s.state ≠ .empty)

/-- The target test of R58: ANY; the printer's floor; the printer; or rerouted from it. -/
def targetFits (j : Job) (printer floor : Nat) : Bool :=
  decide (j.target = .any) || decide (j.target = .floor floor) || decide (j.target = .printer printer)
    || decide (j.reroutedFrom = some printer)

/-- The owner of a job has colour permitted. -/
def ownerColour (r : Records) (owner : Nat) : Bool :=
  match r.adir.accounts.lookup owner with
  | none => false
  | some a => a.colour

/-- The supply test of R58. -/
def supplyFits (r : Records) (printer : Nat) (j : Job) : Bool :=
  slotUsable r printer .k
    && (j.colour == 0 || (slotUsable r printer .c && slotUsable r printer .m && slotUsable r printer .y))

/-- Why a job is not eligible at a printer: the first test of R58 that fails, or none. -/
def failure? (r : Records) (printer : Nat) (j : Job) : Option Failure :=
  match r.ptb.printers.lookup printer with
  | none => some .capability
  | some p =>
    if j.stage ≠ .held then some .state
    else if !targetFits j printer p.floor then some .capability
    else if decide (0 < j.colour) && !p.colourCapable then some .capability
    else if decide (0 < j.colour) && !ownerColour r j.owner then some .notPermitted
    else if decide (j.size = .large) && !p.largeTray then some .capability
    else if j.duplex && !p.duplex then some .capability
    else if !supplyFits r printer j then some .supply
    else none

/-- The job of that number is live and eligible at the printer (R58). -/
def eligible (r : Records) (printer n : Nat) : Bool :=
  match r.hq.jobs.lookup n with
  | none => false
  | some j => decide (failure? r printer j = none)

/-- The job waits for supply at the printer: supply is the one test it fails, being the last (R58). -/
def waitsForSupply (r : Records) (printer n : Nat) : Bool :=
  match r.hq.jobs.lookup n with
  | none => false
  | some j => decide (failure? r printer j = some .supply)

/-- An account's job list, oldest submission first (R40). -/
def jobList (r : Records) (account : Nat) : List Nat := r.hq.lists.list account

/-- The account's jobs eligible at the printer, in submission order. -/
def eligibleJobs (r : Records) (printer account : Nat) : List Nat := (jobList r account).filter (eligible r printer)

/-- The more count, counted afresh: the account's eligible jobs that are not in the menu (R62 step 3). -/
def countMore (r : Records) (printer : Nat) (v : OpenVisit) : Nat :=
  ((eligibleJobs r printer v.account).filter (fun n => !v.menu.contains n)).length

/-- A job is placed in a menu at the position its submission order gives; the cursor rises by 1 where that position is at or
before it and the menu had an entry before (R62 step 2). -/
def placeInMenu (order : List Nat) (n : Nat) (v : OpenVisit) : OpenVisit :=
  let menu := order.filter (fun k => k == n || v.menu.contains k)
  { v with menu, cursor := if menu.idxOf n ≤ v.cursor ∧ v.menu ≠ [] then v.cursor + 1 else v.cursor }

/-- An entry is taken out of a menu; the cursor keeps its number, or becomes the last position (R62 step 1). -/
def takeFromMenu (n : Nat) (v : OpenVisit) : OpenVisit :=
  let menu := v.menu.erase n
  { v with menu, cursor := min v.cursor (menu.length - 1) }

/-- A menu is refilled with the first eligible job that is not in it, and the more count is counted afresh (R62). -/
def refillMenu (r : Records) (printer : Nat) (v : OpenVisit) : OpenVisit :=
  let filled :=
    match (eligibleJobs r printer v.account).find? (fun n => !v.menu.contains n) with
    | none => v
    | some n => placeInMenu (jobList r v.account) n v
  { filled with more := countMore r printer filled }

/-- An entry leaves a menu, which is refilled (R62). -/
def leaveMenu (r : Records) (printer n : Nat) (v : OpenVisit) : OpenVisit := refillMenu r printer (takeFromMenu n v)

/-- Why a visit closes (R68), in the order of its table. -/
inductive CloseReason
  | done | timeout | taken | drained | service | account
deriving DecidableEq, Repr

def CloseReason.code : CloseReason → Nat
  | .done => 0
  | .timeout => 1
  | .taken => 2
  | .drained => 3
  | .service => 4
  | .account => 5

/-- The account of a visit. -/
def Visit.account : Visit → Nat
  | .opened v => v.account
  | .draining d => d.account

/-- The drain counts VISIT_CLOSED carries, for a DRAINING visit (R68). -/
def Visit.drainCounts : Visit → List Field
  | .opened _ => [.absent, .absent]
  | .draining d => [u8 d.granted, u8 d.dropped]

/-- A visit closes: its context becomes IDLE, the account's open visit absent, and VISIT_CLOSED is raised (R68). An IDLE context
is left alone. -/
def closeVisit (printer : Nat) (reason : CloseReason) (w : Work) : Work :=
  match w.rlu.visits.lookup printer with
  | none => w
  | some v =>
    ((w.dropVisit printer).updateAccount v.account (fun a => { a with openVisit := none })).raise .visitClosed printer
      ([u8 printer, u16 v.account, u8 reason.code] ++ v.drainCounts)

/-- The terminal of an account's visit (R57). -/
def openVisit? (r : Records) (account : Nat) : Option Nat :=
  match r.adir.accounts.lookup account with
  | none => none
  | some a => a.openVisit

/-- An account's visit, if it has one, is closed (R79). -/
def closeAccountVisit (account : Nat) (reason : CloseReason) (w : Work) : Work :=
  match openVisit? w.toRecords account with
  | none => w
  | some p => closeVisit p reason w

/-- A job of the account has left the hold queue: it is taken out of the menu, which is refilled, or the more count is counted
afresh; or it is taken out of the drain list, and a drain list that becomes empty ends the drain (R44 step 1, R62, R71). -/
def visitAfterLeaving (n account : Nat) (w : Work) : Work :=
  match openVisit? w.toRecords account with
  | none => w
  | some p =>
    match w.rlu.visits.lookup p with
    | none => w
    | some (.opened v) =>
      if v.menu.contains n then w.setVisit p (.opened (leaveMenu w.toRecords p n v))
      else w.setVisit p (.opened { v with more := countMore w.toRecords p v })
    | some (.draining d) =>
      if d.jobs.contains n then
        let left := { d with jobs := d.jobs.erase n }
        let w1 := w.setVisit p (.draining left)
        if left.jobs.isEmpty then closeVisit p .drained w1 else w1
      else w

/-- A job that has become HELD is offered to the account's OPEN visit: it joins the menu where there is room, or else raises the
more count (R63). -/
def offerJob (n account : Nat) (w : Work) : Work :=
  match openVisit? w.toRecords account with
  | none => w
  | some p =>
    match w.rlu.visits.lookup p with
    | some (.opened v) =>
      if !eligible w.toRecords p n then w
      else if v.menu.length < Config.menuSize then
        w.setVisit p (.opened (placeInMenu (jobList w.toRecords account) n v))
      else w.setVisit p (.opened { v with more := v.more + 1 })
    | _ => w

end Sys2Proof.Machine
end

