-- ==== Sys2Proof/Machine/JobOps.lean ====
section
/-! DEFINITION. HQ's and RLU's operations on jobs (03, 04): leaving the hold queue, rerouting, grants, in-flight lists, and the
return of a job from a release. Also the completion of a retirement (R160, R164), which a fall of an in-flight count brings. -/

namespace Sys2Proof.Machine

/-! ### Leaving the hold queue (R44) -/

/-- The reasons of a removal, in the order of R44's table. -/
inductive RemovalReason
  | cancelled | expired | displaced | attempts | ownerRetired
deriving DecidableEq, Repr

def RemovalReason.code : RemovalReason → Nat
  | .cancelled => 0
  | .expired => 1
  | .displaced => 2
  | .attempts => 3
  | .ownerRetired => 4

/-- A job leaves the hold queue: its owner's list, the live job count, the job-number map with the record, and the menu or drain
list that holds it (R44). The menu is refilled once the job is gone (log 14). -/
def leaveQueue (n owner : Nat) (w : Work) : Work :=
  let w1 := w.setJobList owner ((jobList w.toRecords owner).erase n)
  let w2 := w1.updateAccount owner (fun a => { a with liveJobs := a.liveJobs - 1 })
  visitAfterLeaving n owner (w2.dropJob n)

/-- A removal: the job leaves the queue and JOB_REMOVED is raised, with the state the job left (R44). -/
def removeJob (n : Nat) (reason : RemovalReason) (left : Nat) (w : Work) : Work :=
  match w.hq.jobs.lookup n with
  | none => w
  | some j =>
    (leaveQueue n j.owner w).raise .jobRemoved n [u16 n, u16 j.owner, u8 reason.code, u8 left, u8 j.attempts]

/-! ### Rerouting (R50 to R52) -/

/-- A job is capable at a printer (R50). -/
def capable (j : Job) (s : Printer) : Bool :=
  (j.colour == 0 || s.colourCapable) && (decide (j.size ≠ .large) || s.largeTray) && (!j.duplex || s.duplex)

/-- The sibling a HELD job pinned to a printer is moved to, where the reroute test is met (R50). -/
def rerouteTo? (r : Records) (printer : Nat) (j : Job) : Option Nat :=
  if j.stage ≠ .held ∨ j.target ≠ .printer printer ∨ j.reroutedFrom ≠ none then none
  else match r.ptb.printers.lookup printer with
    | none => none
    | some p =>
      match p.sibling with
      | none => none
      | some s =>
        match r.ptb.printers.lookup s with
        | none => none
        | some sib => if sib.state = .inService ∧ capable j sib then some s else none

/-- The reroute test is applied to one job (R50). -/
def rerouteJob (printer : Nat) (w : Work) (n : Nat) : Work :=
  match w.hq.jobs.lookup n with
  | none => w
  | some j =>
    match rerouteTo? w.toRecords printer j with
    | none => w
    | some s =>
      (w.setJob n { j with target := .printer s, reroutedFrom := some printer }).raise .jobRerouted n
        [u16 n, u16 j.owner, compound (targetParts (.printer s)), u8 printer]

/-- The reroute pass of a printer's entry into OUT_OF_SERVICE (R51), over the jobs by rising number (log 11). -/
def reroutePass (printer : Nat) (w : Work) : Work := w.hq.jobs.indices.foldl (rerouteJob printer) w

/-! ### In flight (R72) -/

/-- A printer's in-flight list (R72). -/
def inFlightList (r : Records) (printer : Nat) : List InFlight := r.rlu.inFlight.list printer

/-- The window of a job in its printer's in-flight list. -/
def window? (r : Records) (printer n : Nat) : Option Deadline :=
  ((inFlightList r printer).find? (fun e => e.job == n)).map (·.window)

/-- A job's entry joins the end of the printer's list; the owner's in-flight count rises by 1 (R67 step 3). -/
def joinFlight (printer n owner : Nat) (window : Deadline) (w : Work) : Work :=
  (w.setInFlight printer (inFlightList w.toRecords printer ++ [{ job := n, window }])).updateAccount owner
    (fun a => { a with inFlight := a.inFlight + 1 })

/-- A job's entry leaves the printer's list with its window; the owner's in-flight count falls by 1 (R72). -/
def leaveFlight (printer n owner : Nat) (w : Work) : Work :=
  (w.setInFlight printer ((inFlightList w.toRecords printer).filter (fun e => e.job != n))).updateAccount owner
    (fun a => { a with inFlight := a.inFlight - 1 })

/-- The grant number after the last one issued; 0 is never issued (R67). -/
def nextGrant (last : Nat) : Nat := if last < Config.maxCount then last + 1 else 1

/-- A grant of a HELD job at a printer, its reservation made (R67). -/
def grantJob (printer n : Nat) (j : Job) (accountPart poolPart : Nat) (w : Work) : Work :=
  let number := nextGrant w.rlu.lastGrant
  let w1 : Work := { w with rlu := { w.rlu with lastGrant := number } }
  let w2 := w1.setJob n { j with stage := .releasing { printer, number, accountPart, poolPart } }
  joinFlight printer n j.owner (arm w.now w.rlu.grantWindow) w2

/-! ### Retirements complete (R158, R160, R164) -/

/-- RECORD_RETIRED's record kinds (R158): ACCOUNT 0, POOL 1, PRINTER 2, SUPPLY_TYPE 3. Its key holds the kind in the top byte
and the index in the low two (11.9); its index field is two bytes wide for every kind (log 18). -/
def retiredNotice (kind index accepted : Nat) (balance : Option Int) (stock : Option Nat) (w : Work) : Work :=
  w.raise .recordRetired (kind * 16777216 + index)
    [u8 kind, u16 index, u32 accepted, u32 w.now, opt s32 balance, opt u16 stock]

/-- An account's retirement completes where it is RETIRING with nothing in flight (R160). -/
def completeAccount (i : Nat) (w : Work) : Work :=
  match w.adir.accounts.lookup i with
  | none => w
  | some a =>
    match a.state with
    | .retiring accepted =>
      if a.inFlight = 0 then
        let w1 := w.setBadges (w.adir.badges.filter (fun b => b.account != i))
        let w2 := match a.pool with
          | none => w1
          | some p => w1.updatePool p (fun q => { q with members := q.members - 1 })
        retiredNotice 0 i accepted (some a.balance) none (w2.dropAccount i)
      else w
    | _ => w

/-- The content of a PRINTER_STATE notice for a printer that is not FREE (R98). -/
def printerStateFields (i previous : Nat) (p : Printer) : List Field :=
  [u8 i, u8 previous, u8 p.state.code, compound (causeParts p.state), flag p.present, flag p.restartUsed,
    condSetField p.live, condSetField p.latched]

/-- Raise PRINTER_STATE for the printer as its record stands (R98). -/
def raisePrinterState (i previous : Nat) (w : Work) : Work :=
  match w.ptb.printers.lookup i with
  | none => w
  | some p => w.raise .printerState i (printerStateFields i previous p)

/-- A printer's retirement completes where it is RETIRING with nothing in flight; PRINTER_STATE is raised with new state FREE,
whose other fields are absent, and then RECORD_RETIRED (R164). -/
def completePrinter (i : Nat) (w : Work) : Work :=
  match w.ptb.printers.lookup i with
  | none => w
  | some p =>
    match p.state with
    | .retiring accepted =>
      if (inFlightList w.toRecords i).isEmpty then
        retiredNotice 2 i accepted none none
          ((w.dropPrinter i).raise .printerState i
            [u8 i, u8 p.state.code, u8 0, .absent, .absent, .absent, .absent, .absent])
      else w
    | _ => w

/-! ### Returning from a release (R47, R75, R78) -/

/-- What became of a job that a release gave back: removed with a reason, or HELD. -/
abbrev Returned := Option RemovalReason

/-- The owner is RETIRING. -/
def ownerRetiring (r : Records) (owner : Nat) : Bool :=
  match r.adir.accounts.lookup owner with
  | none => false
  | some a => match a.state with
    | .retiring _ => true
    | _ => false

/-- What R47 decides for a job given back, from the records with its attempts counted. -/
def returnReason (r : Records) (failed : Bool) (j : Job) : Returned :=
  if failed && decide (r.rlu.maxAttempts ≤ j.attempts) then some .attempts
  else if ownerRetiring r j.owner then some .ownerRetired
  else if j.expiry.reached r.fck.uptime then some .expired
  else none

/-- The state JOB_REMOVED names for a job removed on its return: RELEASING, but HELD where its expiry removed it (R44). -/
def returnLeft : RemovalReason → Nat
  | .expired => 0
  | _ => 1

/-- HQ takes a job back from a release (R47). `failed`: an attempt is counted. `rerouteFrom`: the return was caused by that
printer's entry into OUT_OF_SERVICE, and the reroute test is applied. A job that is HELD is offered to its owner's OPEN visit
(R63); one removed because its expiry has passed is not (logs 12, 13). -/
def takeBack (n : Nat) (failed : Bool) (rerouteFrom : Option Nat) (j : Job) (w : Work) : Work :=
  let j' := { j with stage := .held, attempts := if failed then j.attempts + 1 else j.attempts }
  let w1 := w.setJob n j'
  match returnReason w1.toRecords failed j' with
  | some reason => removeJob n reason (returnLeft reason) w1
  | none =>
    let w2 := match rerouteFrom with
      | none => w1
      | some p => rerouteJob p w1 n
    offerJob n j.owner w2

/-- A RELEASING job's release ends without a print: its entry leaves the in-flight list, its reservation is refunded, and HQ
takes it back (R75, R78). Any other job is left alone. -/
def endRelease (failed : Bool) (rerouteFrom : Option Nat) (w : Work) (n : Nat) : Work :=
  match w.hq.jobs.lookup n with
  | none => w
  | some j =>
    match j.stage with
    | .releasing g => takeBack n failed rerouteFrom j (refund j.owner g (leaveFlight g.printer n j.owner w))
    | _ => w

/-- The owner of a live job. -/
def owner? (r : Records) (n : Nat) : Option Nat := (r.hq.jobs.lookup n).map (·.owner)

/-- The retirements of some accounts complete where they now can (R72, R160). -/
def completeAccounts (accounts : List Nat) (w : Work) : Work := accounts.foldl (fun w i => completeAccount i w) w

/-- The RELEASING jobs of a printer's in-flight list, in its order. -/
def releasingAt (r : Records) (printer : Nat) : List Nat :=
  ((inFlightList r printer).map (·.job)).filter (fun n =>
    match r.hq.jobs.lookup n with
    | none => false
    | some j => decide (j.stage.code = 1))

/-- The owners of those jobs. -/
def releasingOwners (r : Records) (printer : Nat) : List Nat := (releasingAt r printer).filterMap (owner? r)

/-- The RELEASING jobs assigned to a printer are returned, in the order of its in-flight list, as withdrawn releases (R78). A
retirement of one of their owners completes only at the end of the handling (R72). -/
def returnReleasing (printer : Nat) (rerouteFrom : Option Nat) (w : Work) : Work :=
  (releasingAt w.toRecords printer).foldl (endRelease false rerouteFrom) w

end Sys2Proof.Machine
end

