-- ==== Sys2Proof/Machine/Accounts.lean ====
section
/-! DEFINITION. ADIR's requests (01): accounts, badges and pools. -/

namespace Sys2Proof.Machine

/-! ### Accounts -/

/-- Warn high as stored: clamped, and raised to warn low where it is below it (R4, R5). -/
def warnHighStored (low high : Nat) : Nat := max (clamp 0 Config.maxWarn high) low

/-- The settings of an account, in the order of R3 and R5. -/
def accountSettings (a : Account) : List Field :=
  [opt u8 a.pool, flag a.colour, u32 a.allotment, u16 a.overdraft, u32 a.warnLow, u32 a.warnHigh]

/-- Why a pool cannot be joined: out of range, FREE or RETIRING (R3, R6). No pool is always allowed. -/
def poolRefusal? (r : Records) : Option Nat → Option ReplyOutcome
  | none => none
  | some p =>
    if Config.pools ≤ p then some .range
    else match r.adir.pools.lookup p with
      | none => some .noRecord
      | some q => if q.state = .retiring then some .retiring else none

/-- A pool's member count changes. -/
def changeMembers (f : Nat → Nat) (pool : Option Nat) (w : Work) : Work :=
  match pool with
  | none => w
  | some p => w.updatePool p (fun q => { q with members := f q.members })

/-- The record an accepted ACCOUNT_OPEN fills (R4). -/
def openedAccount (f : AccountOpen) : Account where
  state := .active
  pool := f.pool
  colour := yes f.colour
  allotment := clamp 0 Config.maxAllotment f.allotment
  overdraft := clamp 0 Config.maxOverdraft f.overdraft
  warnLow := clamp 0 Config.maxWarn f.warnLow
  warnHigh := warnHighStored (clamp 0 Config.maxWarn f.warnLow) f.warnHigh
  badgeCount := 0
  balance := clamp 0 Config.maxAllotment f.allotment
  reserved := 0
  warned := false
  usedPeriod := 0
  today := 0
  peak := 0
  liveJobs := 0
  openVisit := none
  inFlight := 0

/-- ACCOUNT_OPEN (R3, R4). -/
def handleAccountOpen (f : AccountOpen) (w : Work) : Work × Answer :=
  if (yesNo? f.colour).isNone then w.refuse .range
  else if Config.accounts ≤ f.account then w.refuse .range
  else match w.adir.accounts.lookup f.account with
  | some a => w.refuse (match a.state with
      | .retiring _ => .retiring
      | _ => .duplicate)
  | none =>
    match poolRefusal? w.toRecords f.pool with
    | some o => w.refuse o
    | none =>
      let a := openedAccount f
      let w1 := evaluateWarning f.account (changeMembers (· + 1) f.pool (w.setAccount f.account a))
      w1.ok (accountSettings a ++ [s32 a.balance, flag (warnStateAfter a)])

def execAccountOpen (tag : Tag) (f : AccountOpen) (s : State) : Host.Outcome State Fault Refusal :=
  .next (takeRequest (.accountOpen tag f) 0x10 tag (handleAccountOpen f) s)

/-- The settings ACCOUNT_SET selects, clamped and stored; warn high is raised to warn low after both are known (R5). -/
def setAccountFields (f : AccountSet) (a : Account) : Account :=
  let low := selected 0 Config.maxWarn a.warnLow f.warnLow
  { a with
    pool := f.pool.getD a.pool
    colour := selectedYes a.colour f.colour
    allotment := selected 0 Config.maxAllotment a.allotment f.allotment
    overdraft := selected 0 Config.maxOverdraft a.overdraft f.overdraft
    warnLow := low
    warnHigh := max (selected 0 Config.maxWarn a.warnHigh f.warnHigh) low }

/-- Why a change of pool is refused (R6): the named pool, then jobs in flight. -/
def poolChangeRefusal? (r : Records) (a : Account) (pool : Option Nat) : Option ReplyOutcome :=
  if pool = a.pool then none
  else match poolRefusal? r pool with
    | some o => some o
    | none => if 0 < a.inFlight then some .busy else none

/-- The account leaves its old pool and joins the new one (R6); selecting the present pool is no change. -/
def changePool (old new : Option Nat) (w : Work) : Work :=
  if old = new then w else changeMembers (· + 1) new (changeMembers (· - 1) old w)

/-- ACCOUNT_SET (R5, R6). -/
def handleAccountSet (f : AccountSet) (w : Work) : Work × Answer :=
  if !yesNos f.colour.toList then w.refuse .range
  else if Config.accounts ≤ f.account then w.refuse .range
  else match w.adir.accounts.lookup f.account with
  | none => w.refuse .noRecord
  | some a =>
    match a.state with
    | .retiring _ => w.refuse .retiring
    | _ =>
      match poolChangeRefusal? w.toRecords a (f.pool.getD a.pool) with
      | some o => w.refuse o
      | none =>
        let a' := setAccountFields f a
        let w1 := changePool a.pool a'.pool (w.setAccount f.account a')
        let w2 := if f.overdraft.isSome || f.warnLow.isSome || f.warnHigh.isSome then evaluateWarning f.account w1 else w1
        w2.ok (accountSettings a')

def execAccountSet (tag : Tag) (f : AccountSet) (s : State) : Host.Outcome State Fault Refusal :=
  .next (takeRequest (.accountSet tag f) 0x11 tag (handleAccountSet f) s)

/-- The badge codes of an account, in the order they were bound (R10). -/
def badgeCodes (r : Records) (account : Nat) : List Nat :=
  (r.adir.badges.filter (fun b => b.account == account)).map (·.code)

/-- ACCOUNT_READ (R7). -/
def answerAccountRead (i : Nat) (r : Records) : Answer :=
  if Config.accounts ≤ i then refuse .range
  else match r.adir.accounts.lookup i with
  | none => refuse .noRecord
  | some a => answer .ok
      [u8 a.state.code, opt u8 a.pool, flag a.colour, u32 a.allotment, u16 a.overdraft, u32 a.warnLow, u32 a.warnHigh,
        s32 a.balance, u32 a.reserved, s32 a.available, flag a.warned, u32 a.usedPeriod, u32 a.today, u32 a.peak,
        u8 a.liveJobs, u8 a.inFlight, opt u8 a.openVisit, u8 a.badgeCount,
        listField (fun c => [u32 c]) (badgeCodes r i)]

def execAccountRead (tag : Tag) (i : Nat) (s : State) : Host.Outcome State Fault Refusal :=
  .next (takeRequest (.accountRead tag i) 0x12 tag (reads (answerAccountRead i)) s)

/-- ACCOUNT_SUSPEND (R8): the state becomes SUSPENDED, and the account's visit is closed with reason ACCOUNT (R79). -/
def handleAccountSuspend (i : Nat) (w : Work) : Work × Answer :=
  if Config.accounts ≤ i then w.refuse .range
  else match w.adir.accounts.lookup i with
  | none => w.refuse .noRecord
  | some a =>
    match a.state with
    | .suspended => w.refuse .state
    | .retiring _ => w.refuse .retiring
    | .active =>
      (closeAccountVisit i .account (w.setAccount i { a with state := .suspended })).ok
        [u8 a.liveJobs, u8 a.inFlight, opt u8 a.openVisit]

def execAccountSuspend (tag : Tag) (i : Nat) (s : State) : Host.Outcome State Fault Refusal :=
  .next (takeRequest (.accountSuspend tag i) 0x13 tag (handleAccountSuspend i) s)

/-- ACCOUNT_RESUME (R9): the state alone changes. -/
def handleAccountResume (i : Nat) (w : Work) : Work × Answer :=
  if Config.accounts ≤ i then w.refuse .range
  else match w.adir.accounts.lookup i with
  | none => w.refuse .noRecord
  | some a =>
    match a.state with
    | .active => w.refuse .state
    | .retiring _ => w.refuse .retiring
    | .suspended => (w.setAccount i { a with state := .active }).ok [u8 a.liveJobs]

def execAccountResume (tag : Tag) (i : Nat) (s : State) : Host.Outcome State Fault Refusal :=
  .next (takeRequest (.accountResume tag i) 0x14 tag (handleAccountResume i) s)

/-! ### The badge directory -/

/-- The account a badge code is bound to (R10, R13). -/
def boundTo? (r : Records) (code : Nat) : Option Nat := (r.adir.badges.find? (fun b => b.code == code)).map (·.account)

/-- BADGE_BIND (R11). -/
def handleBadgeBind (code i : Nat) (w : Work) : Work × Answer :=
  if code = 0 ∨ Config.accounts ≤ i then w.refuse .range
  else match w.adir.accounts.lookup i with
  | none => w.refuse .noRecord
  | some a =>
    match a.state with
    | .retiring _ => w.refuse .retiring
    | _ =>
      if (boundTo? w.toRecords code).isSome then w.refuse .duplicate
      else if Config.badgesPerAccount ≤ a.badgeCount then w.refuse .full
      else if Config.badges ≤ w.adir.badges.length then w.refuse .full
      else
        ((w.setBadges (w.adir.badges ++ [{ code, account := i }])).setAccount i { a with badgeCount := a.badgeCount + 1 }).ok
          [u8 (a.badgeCount + 1), u16 (w.adir.badges.length + 1)]

def execBadgeBind (tag : Tag) (code i : Nat) (s : State) : Host.Outcome State Fault Refusal :=
  .next (takeRequest (.badgeBind tag code i) 0x18 tag (handleBadgeBind code i) s)

/-- The badge count of an account; a FREE account has none. -/
def badgeCountOf (r : Records) (i : Nat) : Nat :=
  match r.adir.accounts.lookup i with
  | none => 0
  | some a => a.badgeCount

/-- BADGE_UNBIND (R12); a MISMATCH reply carries the account that holds the code. -/
def handleBadgeUnbind (code i : Nat) (w : Work) : Work × Answer :=
  if code = 0 ∨ Config.accounts ≤ i then w.refuse .range
  else match boundTo? w.toRecords code with
  | none => w.refuse .noRecord
  | some holder =>
    if holder ≠ i then (w, answer .mismatch [u16 holder])
    else
      let w1 := (w.setBadges (w.adir.badges.filter (fun b => b.code != code))).updateAccount i
        (fun a => { a with badgeCount := a.badgeCount - 1 })
      w1.ok [u8 (badgeCountOf w1.toRecords i)]

def execBadgeUnbind (tag : Tag) (code i : Nat) (s : State) : Host.Outcome State Fault Refusal :=
  .next (takeRequest (.badgeUnbind tag code i) 0x19 tag (handleBadgeUnbind code i) s)

/-- BADGE_FIND (R13). -/
def answerBadgeFind (code : Nat) (r : Records) : Answer :=
  if code = 0 then refuse .range
  else match boundTo? r code with
  | none => refuse .noRecord
  | some i =>
    match r.adir.accounts.lookup i with
    | none => refuse .noRecord
    | some a => answer .ok [u16 i, u8 a.state.code, u8 a.badgeCount]

def execBadgeFind (tag : Tag) (code : Nat) (s : State) : Host.Outcome State Fault Refusal :=
  .next (takeRequest (.badgeFind tag code) 0x1A tag (reads (answerBadgeFind code)) s)

/-! ### Pools -/

/-- POOL_OPEN (R15). -/
def handlePoolOpen (i allotment : Nat) (w : Work) : Work × Answer :=
  if Config.pools ≤ i then w.refuse .range
  else match w.adir.pools.lookup i with
  | some p => w.refuse (match p.state with
      | .active => .duplicate
      | .retiring => .retiring)
  | none =>
    let stored := clamp 0 Config.maxAllotment allotment
    (w.setPool i { state := .active, allotment := stored, members := 0, balance := stored, reserved := 0, usedPeriod := 0 }).ok
      [u32 stored, s32 stored]

def execPoolOpen (tag : Tag) (i allotment : Nat) (s : State) : Host.Outcome State Fault Refusal :=
  .next (takeRequest (.poolOpen tag i allotment) 0x1C tag (handlePoolOpen i allotment) s)

/-- POOL_SET (R16). -/
def handlePoolSet (i allotment : Nat) (w : Work) : Work × Answer :=
  if Config.pools ≤ i then w.refuse .range
  else match w.adir.pools.lookup i with
  | none => w.refuse .noRecord
  | some p => (w.setPool i { p with allotment := clamp 0 Config.maxAllotment allotment }).ok
      [u32 (clamp 0 Config.maxAllotment allotment)]

def execPoolSet (tag : Tag) (i allotment : Nat) (s : State) : Host.Outcome State Fault Refusal :=
  .next (takeRequest (.poolSet tag i allotment) 0x1D tag (handlePoolSet i allotment) s)

/-- POOL_READ (R16). -/
def answerPoolRead (i : Nat) (r : Records) : Answer :=
  if Config.pools ≤ i then refuse .range
  else match r.adir.pools.lookup i with
  | none => refuse .noRecord
  | some p => answer .ok
      [u8 p.state.code, u32 p.allotment, u16 p.members, s32 p.balance, u32 p.reserved, u32 p.usedPeriod, s32 p.available]

def execPoolRead (tag : Tag) (i : Nat) (s : State) : Host.Outcome State Fault Refusal :=
  .next (takeRequest (.poolRead tag i) 0x1E tag (reads (answerPoolRead i)) s)

end Sys2Proof.Machine
end

