-- ==== Sys2Proof/Machine/SupplyOps.lean ====
section
/-! DEFINITION. COU's tickets and backlog and SPU's units for them (07 7.3, 08): opening, dispatch, resolution, the handing out
and withdrawing of units, and what both do at the end of a handling. -/

namespace Sys2Proof.Machine

/-! ### Dispatch (R145, R148, R155) -/

/-- The acknowledgement time of a level (R154). -/
def Cou.ackTime (c : Cou) : Nat → Nat
  | 0 => c.ack0
  | 1 => c.ack1
  | 2 => c.ack2
  | _ => c.ack3

/-- The slot of a SUPPLY cause. -/
def CauseKind.slot? : CauseKind → Option SlotLetter
  | .supply l => some l
  | _ => none

/-- The slot key of a SUPPLY ticket. -/
def Ticket.key? (t : Ticket) : Option Nat := t.kind.slot?.map (slotKey t.printer)

/-- Holds unit is a field of SUPPLY tickets alone (R142). -/
def Ticket.holdsUnitField (t : Ticket) : Field := if t.kind.slot?.isSome then flag t.holdsUnit else .absent

/-- The open ticket of a number. -/
def ticket? (r : Records) (n : Nat) : Option Ticket := r.cou.tickets.find? (fun t => t.number == n)

/-- A ticket's record is replaced in its place of the opening order (R142). -/
def putTicket (t : Ticket) (w : Work) : Work :=
  w.setTickets (w.cou.tickets.map (fun u => if u.number = t.number then t else u))

/-- CALLOUT_DISPATCH for a ticket (R155). -/
def raiseDispatch (t : Ticket) (w : Work) : Work :=
  w.raise .calloutDispatch t.number
    [u32 t.number, u8 t.printer, u8 t.kind.code, opt u8 t.kind.detail, u8 t.state.code, u8 t.level,
      opt deadlineField t.deadline, u32 t.arisen, u32 t.opened, t.holdsUnitField]

/-- A ticket as dispatched at a level, its deadline that level's acknowledgement deadline (R145, R146, R148). -/
def dispatchedAt (c : Cou) (now level : Nat) (t : Ticket) : Ticket :=
  { t with state := .dispatched, level, deadline := some (arm now (c.ackTime level)) }

/-- A ticket is dispatched at a level, and announced. -/
def dispatch (level : Nat) (t : Ticket) (w : Work) : Work :=
  let t' := dispatchedAt w.cou w.now level t
  raiseDispatch t' (putTicket t' w)

/-! ### Units (R129 to R131, R137) -/

/-- The supply type of the cartridge fitted in a slot. -/
def fittedType? (r : Records) (key : Nat) : Option Nat := (r.spu.slots.lookup key).map (·.supplyType)

/-- The record of the type fitted in a slot, with its index. -/
def slotType? (r : Records) (key : Nat) : Option (Nat × SupplyType) :=
  match fittedType? r key with
  | none => none
  | some i => (r.spu.types.lookup i).map (fun t => (i, t))

/-- SPU reserves a unit of the slot's type: the slot's entry joins the end of the reservation list (R130). Where the type has no
free stock, there is none to reserve. -/
def reserveUnit? (key : Nat) (w : Work) : Option Work :=
  match slotType? w.toRecords key with
  | none => none
  | some (i, t) => if 0 < t.free then some (w.setType i { t with reservations := t.reservations ++ [key] }) else none

/-- The entry of a slot leaves its type's reservation list (R130). -/
def giveBackUnit (key : Nat) (w : Work) : Work :=
  match slotType? w.toRecords key with
  | none => w
  | some (i, t) => w.setType i { t with reservations := t.reservations.erase key }

/-- A waiting ticket is handed a unit, where its type has one (R131, R148). -/
def handUnit (w : Work) (t : Ticket) : Work :=
  match t.state, t.key? with
  | .waitingStock, some key =>
    match reserveUnit? key w with
    | none => w
    | some w1 => dispatch t.level { t with holdsUnit := true } w1
  | _, _ => w

/-- Free stock is handed to the waiting tickets, the oldest opened first (R131). -/
def handOut (w : Work) : Work := w.cou.tickets.foldl handUnit w

/-- The number of tickets that wait for stock. -/
def waitingTickets (r : Records) : Nat := (r.cou.tickets.filter (fun t => decide (t.state = .waitingStock))).length

/-- The ticket that holds the unit reserved for a slot. -/
def ticketOfSlot? (r : Records) (key : Nat) : Option Ticket := r.cou.tickets.find? (fun t => decide (t.key? = some key))

/-- COU returns a ticket to waiting for stock: its unit is withdrawn (R148). -/
def standDown (key : Nat) (w : Work) : Work :=
  match ticketOfSlot? w.toRecords key with
  | none => w
  | some t =>
    let t' := { t with state := .waitingStock, deadline := none, holdsUnit := false }
    raiseDispatch t' (putTicket t' w)

/-- The newest reservations of a type are withdrawn, so many of them (R137, R139). -/
def withdrawUnits (i : Nat) : Nat → Work → Work
  | 0, w => w
  | n + 1, w =>
    match w.spu.types.lookup i with
    | none => w
    | some t =>
      match t.reservations.getLast? with
      | none => w
      | some key => withdrawUnits i n (standDown key (w.setType i { t with reservations := t.reservations.dropLast }))

/-! ### Opening (R143, R145, R151) -/

/-- The number the next ticket receives (R145). -/
def nextTicket (c : Cou) : Nat :=
  nextFree Config.maxCount (c.tickets.map (·.number)) (c.tickets.length + 1) c.lastTicket

/-- A ticket as it joins the table, waiting (R145 steps 1 and 2). -/
def newTicket (number printer : Nat) (kind : CauseKind) (arisen now : Nat) : Ticket where
  number := number
  printer := printer
  kind := kind
  state := .waitingStock
  level := 0
  arisen := arisen
  opened := now
  deadline := none
  holdsUnit := false

/-- COU opens a ticket for a cause (R145). A SUPPLY ticket asks SPU for a unit, and waits where there is none. -/
def openTicket (printer : Nat) (kind : CauseKind) (arisen : Nat) (w : Work) : Work :=
  let n := nextTicket w.cou
  let t := newTicket n printer kind arisen w.now
  let w1 : Work := { w with cou := { w.cou with tickets := w.cou.tickets ++ [t], lastTicket := n } }
  match t.key? with
  | none => dispatch 0 t w1
  | some key =>
    match reserveUnit? key w1 with
    | none => w1
    | some w2 => dispatch 0 { t with holdsUnit := true } w2

/-- A cause arises: COU opens a ticket while fewer than 64 are open, and else owes the cause (R143, R151). -/
def arise (printer : Nat) (kind : CauseKind) (w : Work) : Work :=
  if w.cou.tickets.length < Config.tickets then openTicket printer kind w.now w
  else w.setBacklog (w.cou.backlog ++ [{ printer, kind, owed := w.now }])

/-- Owed entries leave the head of the backlog into free slots of the table (R151). -/
def openOwedFrom : List OwedCause → Work → Work
  | [], w => w.setBacklog []
  | o :: rest, w =>
    if w.cou.tickets.length < Config.tickets then openOwedFrom rest (openTicket o.printer o.kind o.owed w)
    else w.setBacklog (o :: rest)

def openOwed (w : Work) : Work := openOwedFrom w.cou.backlog w

/-- The owed entries that meet a test are dropped, without a notice (R151). -/
def dropOwed (p : OwedCause → Bool) (w : Work) : Work := w.setBacklog (w.cou.backlog.filter (fun o => !p o))

/-! ### Resolution (R149) -/

/-- The reasons of a resolution, in the order of R149's table. -/
inductive ResolveReason
  | cleared | withdrawn | installed | reseat | retired | closed
deriving DecidableEq, Repr

def ResolveReason.code : ResolveReason → Nat
  | .cleared => 0
  | .withdrawn => 1
  | .installed => 2
  | .reseat => 3
  | .retired => 4
  | .closed => 5

/-- A ticket leaves the table, and CALLOUT_RESOLVED is raised (R149 steps 2 to 4, R155). -/
def removeTicket (t : Ticket) (reason : ResolveReason) (gaveBack : Bool) (w : Work) : Work :=
  (w.setTickets (w.cou.tickets.filter (fun u => u.number != t.number))).raise .calloutResolved t.number
    [u32 t.number, u8 t.printer, u8 t.kind.code, opt u8 t.kind.detail, u8 reason.code, u8 t.state.code, u8 t.level,
      flag gaveBack]

/-- A ticket is resolved for a reason other than INSTALLED: a unit it holds is given back (R149). -/
def resolveTicket (reason : ResolveReason) (w : Work) (t : Ticket) : Work :=
  match t.key? with
  | some key => removeTicket t reason t.holdsUnit (if t.holdsUnit then giveBackUnit key w else w)
  | none => removeTicket t reason false w

/-- The open tickets that meet a test are resolved (R149), in opening order. That order among several tickets of one event, and so
of their CALLOUT_RESOLVED notices, is the model's choice: R149 gives none (log 11). -/
def resolveWhere (p : Ticket → Bool) (reason : ResolveReason) (w : Work) : Work :=
  (w.cou.tickets.filter p).foldl (resolveTicket reason) w

/-- FAULT and RESTART, the kinds of a printer that is OUT_OF_SERVICE (R144). -/
def CauseKind.outOfService : CauseKind → Bool
  | .fault _ => true
  | .restart => true
  | _ => false

/-! ### The end of a handling (R131, R133, R151, R152) -/

/-- COU evaluates the alarm condition (R152). -/
def alarmCondition (c : Cou) : Bool :=
  decide (c.alarmLevel < 4) && c.tickets.any (fun t => decide (c.alarmLevel ≤ t.level))

def evaluateAlarm (w : Work) : Work := { w with cou := { w.cou with alarm := alarmCondition w.cou } }

/-- REORDER_DUE for a type (R133). -/
def raiseReorder (w : Work) (i : Nat) : Work :=
  match w.spu.types.lookup i with
  | none => w
  | some t =>
    let n := need w.toRecords i t
    w.raise .reorderDue i
      [u8 i, u8 t.colour.code, u8 t.modelGroup, u32 (max t.reorderQuantity ((n : Int) - t.position).toNat), u16 t.onHand,
        u16 t.reserved, u16 t.onOrder, u16 (demand w.toRecords i t), u8 t.minimumStock, s32 t.position, u32 n]

/-- SPU evaluates the order states: REORDER_DUE for each type that stands in DUE and did not when the handling began (R133). -/
def orderPoint (w : Work) : Work :=
  let now := dueTypes w.toRecords
  let w1 := (now.filter (fun i => !w.due.contains i)).foldl raiseReorder w
  { w1 with due := now }

/-- What SPU and COU do at the end of a handling that reached them: free stock is handed out, owed entries are opened, the alarm
condition and the order states are evaluated (log 15). -/
def endHandling (w : Work) : Work := orderPoint (evaluateAlarm (openOwed (handOut w)))

end Sys2Proof.Machine
end

