-- ==== Sys2Proof/Machine/Callouts.lean ====
section
/-! DEFINITION. COU's requests and deadlines (08). -/

namespace Sys2Proof.Machine

/-- The fields of a ticket in the order of R142's table. -/
def ticketFields (t : Ticket) : List Field :=
  [u32 t.number, u8 t.printer, compound (kindParts t.kind), u8 t.state.code, u8 t.level, u32 t.arisen, u32 t.opened,
    opt deadlineField t.deadline, t.holdsUnitField]

/-- CALLOUT_READ (R153). Its position in the opening order is counted from 0, as R153 counts CALLOUT_LIST's: for CALLOUT_READ's own
that is the model's choice (log 17). -/
def answerCalloutRead (n : Nat) (r : Records) : Answer :=
  if n = 0 then refuse .range
  else match ticket? r n with
  | none => refuse .noRecord
  | some t => answer .ok (ticketFields t ++ [u32 ((r.cou.tickets.map (·.number)).idxOf n)])

def execCalloutRead (tag : Tag) (n : Nat) (s : State) : Host.Outcome State Fault Refusal :=
  .next (takeRequest (.calloutRead tag n) 0x60 tag (reads (answerCalloutRead n)) s)

/-- An OPEN entry of CALLOUT_LIST (R153). -/
def openEntry (t : Ticket) : List Field :=
  [u32 t.number, u8 t.printer] ++ kindParts t.kind ++ [u8 t.state.code, u8 t.level] ++
    optPart 4 (t.deadline.map (·.value)) ++ optPart 1 (t.kind.slot?.map (fun _ => t.holdsUnit.toNat))

/-- An OWED entry of CALLOUT_LIST (R153). -/
def owedEntry (o : OwedCause) : List Field := [u8 o.printer] ++ kindParts o.kind ++ [u32 o.owed]

/-- The entries of one reply, from a position of a list. -/
def listPage {α : Type} (position : Nat) (l : List α) : List α := (l.drop position).take Config.listEntries

/-- The reply of CALLOUT_LIST, around one page of entries. -/
def calloutPage {α : Type} (r : Records) (position : Nat) (f : α → List Field) (l : List α) : Answer :=
  answer .ok [u8 r.cou.tickets.length, u16 r.cou.backlog.length, flag r.cou.alarm, listField f (listPage position l),
    u32 (position + (listPage position l).length)]

/-- CALLOUT_LIST (R153): OPEN is 0, OWED is 1. -/
def answerCalloutList (selection position : Nat) (r : Records) : Answer :=
  match selection with
  | 0 => calloutPage r position openEntry r.cou.tickets
  | 1 => calloutPage r position owedEntry r.cou.backlog
  | _ => refuse .range

def execCalloutList (tag : Tag) (selection position : Nat) (s : State) : Host.Outcome State Fault Refusal :=
  .next (takeRequest (.calloutList tag selection position) 0x61 tag (reads (answerCalloutList selection position)) s)

/-- CALLOUT_ACK (R147): the work deadline takes the place of the acknowledgement deadline. -/
def handleCalloutAck (n : Nat) (w : Work) : Work × Answer :=
  if n = 0 then w.refuse .range
  else match ticket? w.toRecords n with
  | none => w.refuse .noRecord
  | some t =>
    if t.state ≠ .dispatched then w.refuse .state
    else
      let d := arm w.now w.cou.workTime
      (putTicket { t with state := .acknowledged, deadline := some d } w).ok [u8 t.level, deadlineField d]

def execCalloutAck (tag : Tag) (n : Nat) (s : State) : Host.Outcome State Fault Refusal :=
  .next (takeRequest (.calloutAck tag n) 0x62 tag (handleCalloutAck n) s)

/-- CALLOUT_CLOSE (R150): the ticket is resolved with reason CLOSED. -/
def handleCalloutClose (n : Nat) (w : Work) : Work × Answer :=
  if n = 0 then w.refuse .range
  else match ticket? w.toRecords n with
  | none => w.refuse .noRecord
  | some t =>
    (endHandling (resolveTicket .closed w t)).ok
      [compound (kindParts t.kind), u8 t.printer, u8 t.state.code, u8 t.level, flag (t.key?.isSome && t.holdsUnit)]

def execCalloutClose (tag : Tag) (n : Nat) (s : State) : Host.Outcome State Fault Refusal :=
  .next (takeRequest (.calloutClose tag n) 0x63 tag (handleCalloutClose n) s)

/-- The callout settings a CALLOUT_CONFIG leaves (R154). -/
def setCallouts (f : CalloutConfig) (c : Cou) : Cou :=
  { c with
    ack0 := selected 300 86400 c.ack0 f.ack0
    ack1 := selected 300 86400 c.ack1 f.ack1
    ack2 := selected 300 86400 c.ack2 f.ack2
    ack3 := selected 300 86400 c.ack3 f.ack3
    workTime := selected 1800 172800 c.workTime f.workTime
    alarmLevel := selected 0 4 c.alarmLevel f.alarmLevel }

/-- CALLOUT_CONFIG (R154): the alarm condition is evaluated at its end (R152). -/
def handleCalloutConfig (f : CalloutConfig) (w : Work) : Work × Answer :=
  let w1 := evaluateAlarm { w with cou := setCallouts f w.cou }
  let c := w1.cou
  w1.ok [u32 c.ack0, u32 c.ack1, u32 c.ack2, u32 c.ack3, u32 c.workTime, u8 c.alarmLevel, u32 c.lastTicket, flag c.alarm]

def execCalloutConfig (tag : Tag) (f : CalloutConfig) (s : State) : Host.Outcome State Fault Refusal :=
  .next (takeRequest (.calloutConfig tag f) 0x64 tag (handleCalloutConfig f) s)

/-- A ticket in a state whose deadline has been reached is dispatched one level higher, at most 3 (R146, R147). -/
def escalate (state : TicketState) (n : Nat) (w : Work) : Work :=
  match ticket? w.toRecords n with
  | none => w
  | some t =>
    if t.state = state ∧ reached? t.deadline w.now = true then evaluateAlarm (dispatch (min (t.level + 1) 3) t w) else w

/-- An acknowledgement deadline falls due (R146). -/
def execAcknowledgementDeadline (n : Nat) (s : State) : Host.Outcome State Fault Refusal :=
  .next (takeEvent (escalate .dispatched n) s)

/-- A work deadline falls due (R147). -/
def execWorkDeadline (n : Nat) (s : State) : Host.Outcome State Fault Refusal :=
  .next (takeEvent (escalate .acknowledged n) s)

end Sys2Proof.Machine
end

