-- ==== Sys2Proof/Machine/TonerOps.lean ====
section
/-! DEFINITION. SPU's estimate (06): level and projection, the level state and what its change brings, consumption, sensor
readings, and a day roll's work on the slots. -/

namespace Sys2Proof.Machine

/-! ### Level and projection (R112, R113) -/

def levelPercent (remaining capacity : Nat) : Nat := remaining * 100 / capacity

def projectedDays (remaining average : Nat) : Nat := if average = 0 then 999 else min 999 (remaining / average)

/-- Level % and projected days of a slot whose remaining has changed. -/
def Slot.recompute (s : Slot) : Slot :=
  { s with level := levelPercent s.remaining s.capacity, projected := projectedDays s.remaining s.average }

/-! ### Level states (R116, R118) -/

/-- The level state an evaluation leaves, against the slot's supply type (R116). -/
def levelVerdict (t : SupplyType) (s : Slot) : LevelState :=
  match s.state with
  | .empty => .empty
  | .low => if s.remaining = 0 then .empty else .low
  | .ok =>
    if s.remaining = 0 then .empty
    else if s.level ≤ t.lowPercent ∨ s.projected ≤ t.leadDays + t.safetyDays then .low
    else .ok

/-- The causes of SLOT_LEVEL, in the order of R118. -/
inductive SlotCause
  | consumption | dayRoll | sensor | install
deriving DecidableEq, Repr

def SlotCause.code : SlotCause → Nat
  | .consumption => 0
  | .dayRoll => 1
  | .sensor => 2
  | .install => 3

/-- SLOT_LEVEL for a slot as its record stands; `previous` is absent where the slot was unfitted (R118, R140). -/
def raiseSlotLevel (printer : Nat) (letter : SlotLetter) (previous : Option LevelState) (cause : SlotCause) (w : Work) : Work :=
  match w.spu.slots.lookup (slotKey printer letter) with
  | none => w
  | some s =>
    w.raise .slotLevel (slotKey printer letter)
      [u8 printer, u8 letter.code, u8 s.supplyType, opt (fun l => u8 l.code) previous, u8 s.state.code, u8 cause.code,
        u8 s.level, u32 s.remaining, u32 s.average, u16 s.projected, flag s.corrected]

/-- SPU evaluates a fitted slot: a change to EMPTY hands COU a SUPPLY cause, and a change, or a correction, raises SLOT_LEVEL
(R116, R118). -/
def evaluateSlot (printer : Nat) (letter : SlotLetter) (cause : SlotCause) (correction : Bool) (w : Work) : Work :=
  match w.spu.slots.lookup (slotKey printer letter) with
  | none => w
  | some s =>
    match w.spu.types.lookup s.supplyType with
    | none => w
    | some t =>
      let verdict := levelVerdict t s
      let w1 := w.setSlot (slotKey printer letter) { s with state := verdict }
      let w2 := if verdict = .empty ∧ s.state ≠ .empty then arise printer (.supply letter) w1 else w1
      if verdict ≠ s.state ∨ correction = true then raiseSlotLevel printer letter (some s.state) cause w2 else w2

/-! ### Consumption (R108 to R110) -/

/-- A slot after a consumption, not yet evaluated (R110 steps 1 to 4). -/
def Slot.consume (units sides : Nat) (s : Slot) : Slot :=
  Slot.recompute
    { s with remaining := s.remaining - units, today := saturate (s.today + units), sides := saturate (s.sides + sides) }

/-- SPU applies one colour's consumption to its slot; an unfitted slot is passed over (R110). -/
def consume (printer units sides : Nat) (letter : SlotLetter) (w : Work) : Work :=
  match w.spu.slots.lookup (slotKey printer letter) with
  | none => w
  | some s =>
    evaluateSlot printer letter .consumption false (w.setSlot (slotKey printer letter) (s.consume units sides))

/-- The four coverage sums of a settlement, in hundredths of a percent over the sides. -/
structure Coverage where
  k : Nat
  c : Nat
  m : Nat
  y : Nat
deriving DecidableEq, Repr

/-- The consumption of a colour: the sum, at most 10,000 for each side, times the quarters of a side (R108). -/
def consumption (size : SizeClass) (sum sides : Nat) : Nat := min sum (10000 * sides) * size.quarters

/-- The sums of a default settlement: 5.00% of each side (R109). -/
def ratedCoverage (mono colour : Nat) : Coverage :=
  { k := 500 * (mono + colour), c := 500 * colour, m := 500 * colour, y := 500 * colour }

/-- SPU applies a settlement's consumption to the four slots of the printer (R108, R110), in the order K, C, M, Y (log 11). -/
def applyConsumption (printer : Nat) (size : SizeClass) (mono colour : Nat) (v : Coverage) (w : Work) : Work :=
  let w1 := consume printer (consumption size v.k (mono + colour)) (mono + colour) .k w
  let w2 := consume printer (consumption size v.c colour) colour .c w1
  let w3 := consume printer (consumption size v.m colour) colour .m w2
  consume printer (consumption size v.y colour) colour .y w3

/-! ### Sensor readings (R117) -/

/-- A correction lowers remaining; the slot is then evaluated and SLOT_LEVEL raised. -/
def correctSlot (printer remaining : Nat) (letter : SlotLetter) (s : Slot) (w : Work) : Work :=
  evaluateSlot printer letter .sensor true
    (w.setSlot (slotKey printer letter) (Slot.recompute { s with remaining, corrected := true }))

/-- SPU takes a sensor reading for a slot, one handling of its own (R117, R133). A reading to which R117 gives no effect evaluates
nothing (log 37). -/
def readSensor (printer : Nat) (letter : SlotLetter) (reading : Reading) (w : Work) : Work :=
  match w.spu.slots.lookup (slotKey printer letter) with
  | none => w
  | some s =>
    match reading with
    | .ok => w
    | .out => if s.remaining = 0 then w else orderPoint (correctSlot printer 0 letter s w)
    | .low =>
      match w.spu.types.lookup s.supplyType with
      | none => w
      | some t =>
        if t.lowPercent < s.level then orderPoint (correctSlot printer (s.capacity * t.lowPercent / 100) letter s w) else w

/-! ### The day roll (R114) -/

/-- The step of a seeded average: the gap over 2^k, truncated toward zero, and 1 toward the day's use where that leaves 0 of a
gap that is not 0 (R114 step 2). -/
def smoothingStep (shift : Nat) (gap : Int) : Int :=
  let step := gap.tdiv (2 ^ shift)
  if step ≠ 0 ∨ gap = 0 then step else if 0 < gap then 1 else -1

/-- A slot after a day roll, not yet evaluated (R114 steps 1 to 4). -/
def Slot.rollDay (shift : Nat) (s : Slot) : Slot :=
  let average := if s.seeded then ((s.average : Int) + smoothingStep shift ((s.today : Int) - s.average)).toNat else s.today
  { s with average, seeded := true, today := 0, projected := projectedDays s.remaining average }

/-- The slot letter of a slot key. -/
def letterOfKey (key : Nat) : SlotLetter :=
  match key % 4 with
  | 0 => .k
  | 1 => .c
  | 2 => .m
  | _ => .y

/-- A day roll's work on one slot, one handling of its own (R114, R133). -/
def rollSlot (w : Work) (key : Nat) : Work :=
  match w.spu.slots.lookup key with
  | none => w
  | some s => orderPoint (evaluateSlot (key / 4) (letterOfKey key) .dayRoll false (w.setSlot key (s.rollDay w.spu.shift)))

/-- SPU's day roll, over the fitted slots by rising key (R114; log 11). -/
def supplyDayRoll (w : Work) : Work := w.spu.slots.indices.foldl rollSlot w

end Sys2Proof.Machine
end

