-- ==== Sys2Proof/Machine/ClockOps.lean ====
section
/-! DEFINITION. FCK's wall time, midnights and day rolls (10). -/

namespace Sys2Proof.Machine

/-- Wall time: uptime plus the offset, standing at its last value (R169). -/
def Fck.wall (f : Fck) : Nat := min ((f.uptime : Int) + f.offset).toNat Config.maxWall

/-- The first midnight after a wall time (R169). -/
def nextMidnight (wall : Nat) : Nat := (wall / Config.daySeconds + 1) * Config.daySeconds

/-- The roll deadline for a midnight: its wall time less the offset; none is armed for a midnight past the last wall time
(R169). -/
def rollAt (now : Nat) (offset : Int) (midnight : Nat) : Option Deadline :=
  if Config.maxWall < midnight then none else some (armAt now ((midnight : Int) - offset).toNat)

/-- The roll deadline is armed at the first midnight after the current wall time. -/
def armRoll (w : Work) : Work :=
  { w with fck := { w.fck with roll := rollAt w.fck.uptime w.fck.offset (nextMidnight w.fck.wall) } }

/-- One day roll (R170 steps 1, 3 and 4): the day index, the countdown with the period roll it may bring (R171), QTU's work and
SPU's. The deadline is re-armed by the handling that raises the roll. -/
def dayRoll (w : Work) : Work :=
  let index := (w.fck.dayIndex + 1) % 65536
  let w1 : Work := { w with fck := { w.fck with dayIndex := index, countdown := w.fck.countdown - 1 } }
  let w2 : Work :=
    if w1.fck.countdown = 0 then
      let rolled := periodRoll index w1
      { rolled with fck := { rolled.fck with countdown := rolled.qtu.periodLength } }
    else w1
  supplyDayRoll (quotaDayRoll w2)

/-- Day rolls one after another, each taken whole (R170). -/
def dayRolls : Nat → Work → Work
  | 0, w => w
  | n + 1, w => dayRolls n (dayRoll w)

/-- The period rolls among so many day rolls that begin at a countdown (R171). -/
def periodRollsAmong (length : Nat) : Nat → Nat → Nat
  | 0, _ => 0
  | n + 1, countdown =>
    if countdown - 1 = 0 then periodRollsAmong length n length + 1 else periodRollsAmong length n (countdown - 1)

end Sys2Proof.Machine
end

