-- ==== Sys2Proof/Machine/Clock.lean ====
section
/-! DEFINITION. FCK's requests, the roll deadline and the passing of a second (10). -/

namespace Sys2Proof.Machine

/-- A midnight at or below the wall time still waits to be rolled: the roll deadline has been reached and not taken. A deadline that
was stored as the last uptime in place of a later value (R168) stands before its midnight, at no whole day (log 26). -/
def Fck.midnightWaits (f : Fck) : Bool :=
  match f.roll with
  | none => false
  | some d => d.reached f.uptime && decide (((d.value : Int) + f.offset) % Config.daySeconds = 0)

/-- The day rolls a later CLOCK_SET raises: the midnights above the old wall time and at or below the new one, and a midnight that
still waits to be rolled; a backward move raises none (R172; log 26). -/
def rollsOfMove (f : Fck) (wall : Nat) : Nat :=
  if wall < f.wall then 0
  else wall / Config.daySeconds - f.wall / Config.daySeconds + f.midnightWaits.toNat

/-- A move of the clock, back or forth, is longer than 172,800 s (R172). -/
def jumps (old new : Nat) : Bool := decide (old + Config.maxMove < new) || decide (new + Config.maxMove < old)

/-- An accepted CLOCK_SET: the offset, so many day rolls, the roll deadline, and a carried countdown (R172). The two counts of rolls
are four bytes wide each (log 18). -/
def setClock (wall rolls : Nat) (countdown : Option Nat) (w : Work) : Work × Answer :=
  let periods := periodRollsAmong w.qtu.periodLength rolls w.fck.countdown
  let w1 : Work := { w with fck := { w.fck with offset := (wall : Int) - w.fck.uptime, clockSet := true } }
  let w2 := armRoll (dayRolls rolls w1)
  let w3 : Work := { w2 with fck := { w2.fck with countdown := selected 1 62 w2.fck.countdown countdown } }
  w3.ok
    [u40 wall, s48 w3.fck.offset, u32 rolls, u32 periods, u16 w3.fck.dayIndex, u8 w3.fck.countdown,
      opt deadlineField w3.fck.roll]

/-- CLOCK_SET (R172); a CLOCK_JUMP reply carries the current wall time. -/
def handleClockSet (wall : Nat) (countdown : Option Nat) (w : Work) : Work × Answer :=
  if Config.maxWall < wall then w.refuse .range
  else if !w.fck.clockSet then setClock wall 0 countdown w
  else if jumps w.fck.wall wall then (w, answer .clockJump [u40 w.fck.wall])
  else setClock wall (rollsOfMove w.fck wall) countdown w

def execClockSet (tag : Tag) (wall : Nat) (countdown : Option Nat) (s : State) : Host.Outcome State Fault Refusal :=
  .next (takeRequest (.clockSet tag wall countdown) 0x70 tag (handleClockSet wall countdown) s)

/-- The seconds until a roll deadline falls due (R173). For one that was armed at the last uptime, and so never falls due (R168),
the manual gives no number: a free value (log 39). -/
def Fck.secondsUntil (f : Fck) (d : Deadline) : Nat :=
  if d.dormant then Config.neverDueSeconds f.offset else d.value - f.uptime

/-- CLOCK_READ (R173). -/
def answerClockRead (r : Records) : Answer :=
  answer .ok
    [u32 r.fck.uptime, s48 r.fck.offset, u40 r.fck.wall, flag r.fck.clockSet, opt deadlineField r.fck.roll,
      opt (fun d => u32 (r.fck.secondsUntil d)) r.fck.roll, u16 r.fck.dayIndex, u8 r.fck.countdown, u8 r.qtu.periodLength]

def execClockRead (tag : Tag) (s : State) : Host.Outcome State Fault Refusal :=
  .next (takeRequest (.clockRead tag) 0x71 tag (reads answerClockRead) s)

/-- The roll deadline falls due: one day roll, and the deadline 86,400 s later than its value (R170). -/
def rollFalls (w : Work) : Work :=
  match w.fck.roll with
  | none => w
  | some d =>
    if d.reached w.now then
      let later := d.value + Config.daySeconds
      let roll := rollAt w.fck.uptime w.fck.offset ((later : Int) + w.fck.offset).toNat
      dayRoll { w with fck := { w.fck with roll } }
    else w

def execRollDeadline (s : State) : Host.Outcome State Fault Refusal := .next (takeEvent rollFalls s)

/-- A second passes: uptime rises by 1 and stops at its last value. It runs on the standby supply while main power is off
(R168); with neither supply nothing counts (log 23). -/
def execUptimeTick (s : State) : Host.Outcome State Fault Refusal :=
  .next (if s.lnk.mainPower || s.lnk.retention then { s with fck := { s.fck with uptime := saturate (s.fck.uptime + 1) } }
    else s)

end Sys2Proof.Machine
end

