-- ==== Sys2Proof/Machine/Hold.lean ====
section
/-! DEFINITION. HQ's requests and its deadline (03). -/

namespace Sys2Proof.Machine

/-! ### Submission (R41 to R43) -/

/-- Why the owner cannot submit: FREE, SUSPENDED or RETIRING (R41 step 3), or colour not permitted (step 4). -/
def ownerRefusal? (r : Records) (owner colour : Nat) : Option ReplyOutcome :=
  match r.adir.accounts.lookup owner with
  | none => some .noRecord
  | some a =>
    match a.state with
    | .suspended => some .state
    | .retiring _ => some .retiring
    | .active => if decide (0 < colour) && !a.colour then some .notPermitted else none

/-- Why the target cannot be taken: a printer that is FREE or RETIRING (R41 step 5). -/
def targetRefusal? (r : Records) : Target → Option ReplyOutcome
  | .printer p =>
    match r.ptb.printers.lookup p with
    | none => some .noRecord
    | some q => match q.state with
      | .retiring _ => some .retiring
      | _ => none
  | _ => none

/-- The job of that number stands in HELD. -/
def isHeld (r : Records) (n : Nat) : Bool :=
  match r.hq.jobs.lookup n with
  | none => false
  | some j => decide (j.stage = .held)

/-- The room for a submission (R42). -/
inductive Room
  | free
  | displacing (job : Nat)
  | full
deriving DecidableEq, Repr

/-- HQ decides whether there is room for a job (R42). -/
def room (r : Records) (owner : Nat) : Room :=
  if (jobList r owner).length < Config.jobsPerAccount then
    if r.hq.jobs.length < Config.jobs then .free else .full
  else match (jobList r owner).find? (isHeld r) with
    | some n => .displacing n
    | none => .full

/-- The number a submission receives (R39). -/
def nextJob (r : Records) : Nat := nextFree Config.maxJob r.hq.jobs.indices (r.hq.jobs.length + 1) r.hq.lastJob

/-- The record of a submitted job (R43). -/
def submittedJob (f : JobSubmit) (size : SizeClass) (target : Target) (now hours : Nat) : Job where
  owner := f.owner
  stage := .held
  submitted := now
  expiry := arm now (hours * 3600)
  mono := f.mono
  colour := f.colour
  size := size
  duplex := yes f.duplex
  target := target
  reroutedFrom := none
  attempts := 0

/-- A new job enters the table, its owner's list and the live job count, and RLU is told of it (R43, R63). -/
def enterJob (n : Nat) (j : Job) (w : Work) : Work :=
  let w1 := (w.setJob n j).setJobList j.owner (jobList w.toRecords j.owner ++ [n])
  let w2 : Work := { w1 with hq := { w1.hq with lastJob := n } }
  offerJob n j.owner (w2.updateAccount j.owner (fun a => { a with liveJobs := a.liveJobs + 1 }))

/-- The live job count of an account. -/
def liveCount (r : Records) (i : Nat) : Nat :=
  match r.adir.accounts.lookup i with
  | none => 0
  | some a => a.liveJobs

/-- A submission that has room is taken, after the displacement it may bring (R42, R43). -/
def submit (f : JobSubmit) (size : SizeClass) (target : Target) (displaced : Option Nat) (w : Work) : Work × Answer :=
  let w1 := match displaced with
    | none => w
    | some d => removeJob d .displaced 0 w
  let n := nextJob w1.toRecords
  let j := submittedJob f size target w.now w.hq.holdHours
  let w2 := enterJob n j w1
  w2.ok [u16 n, deadlineField j.expiry, u8 (liveCount w2.toRecords f.owner), opt u16 displaced]

/-- JOB_SUBMIT (R41, R42, R43). -/
def handleJobSubmit (f : JobSubmit) (w : Work) : Work × Answer :=
  if (yesNo? f.duplex).isNone ∨ Config.accounts ≤ f.owner then w.refuse .range
  else match sizeClass? f.size, target? f.targetKind f.targetNumber with
  | some size, some target =>
    if f.mono = 0 ∧ f.colour = 0 then w.refuse .range
    else match ownerRefusal? w.toRecords f.owner f.colour with
    | some o => w.refuse o
    | none =>
      match targetRefusal? w.toRecords target with
      | some o => w.refuse o
      | none =>
        match room w.toRecords f.owner with
        | .full => w.refuse .full
        | .free => submit f size target none w
        | .displacing d => submit f size target (some d) w
  | _, _ => w.refuse .range

def execJobSubmit (tag : Tag) (f : JobSubmit) (s : State) : Host.Outcome State Fault Refusal :=
  .next (takeRequest (.jobSubmit tag f) 0x28 tag (handleJobSubmit f) s)

/-! ### Cancellation (R46) -/

/-- The cancellation of a job, by JOB_CANCEL or by DELETE at a terminal (R46). Where it lets both the owner's and the printer's
retirement complete, the owner's does first (log 11). -/
def cancelJob (n account : Nat) (w : Work) : Work × Answer :=
  if n = 0 ∨ Config.maxJob < n ∨ Config.accounts ≤ account then w.refuse .range
  else match w.hq.jobs.lookup n with
  | none => w.refuse .noRecord
  | some j =>
    if j.owner ≠ account then w.refuse .mismatch
    else match j.stage with
    | .printing _ _ => w.refuse .state
    | .held => (removeJob n .cancelled 0 w).ok [u8 j.stage.code, .absent, .absent]
    | .releasing g =>
      let w1 := removeJob n .cancelled 1 (leaveFlight g.printer n j.owner (refund j.owner g w))
      (completePrinter g.printer (completeAccount j.owner w1)).ok [u8 j.stage.code, u32 g.accountPart, u32 g.poolPart]

/-- JOB_CANCEL (R46). -/
def handleJobCancel (n account : Nat) (w : Work) : Work × Answer := cancelJob n account w

def execJobCancel (tag : Tag) (n account : Nat) (s : State) : Host.Outcome State Fault Refusal :=
  .next (takeRequest (.jobCancel tag n account) 0x29 tag (handleJobCancel n account) s)

/-! ### Reading (R48, R49) -/

/-- The grant of a job in flight (R38). -/
def Stage.grant? : Stage → Option Grant
  | .held => none
  | .releasing g => some g
  | .printing g _ => some g

/-- The accepted uptime of a PRINTING job (R38). -/
def Stage.accepted? : Stage → Option Nat
  | .printing _ t => some t
  | _ => none

/-- The fields of a job record in the order of R37's table; the reservation is its two parts (log 17). -/
def jobFields (n : Nat) (j : Job) : List Field :=
  [u16 n, u16 j.owner, u8 j.stage.code, u32 j.submitted, deadlineField j.expiry, u16 j.mono, u16 j.colour, u8 j.size.code,
    flag j.duplex, compound (targetParts j.target), opt u8 j.reroutedFrom, u8 j.attempts,
    opt u8 (j.stage.grant?.map (·.printer)), opt u32 (j.stage.grant?.map (·.number)),
    opt (fun g => compound [u32 g.accountPart, u32 g.poolPart]) j.stage.grant?, opt u32 j.stage.accepted?]

/-- The state number of an account; 0 where it is FREE. -/
def accountStateCode (r : Records) (i : Nat) : Nat :=
  match r.adir.accounts.lookup i with
  | none => 0
  | some a => a.state.code

/-- JOB_READ (R48). -/
def answerJobRead (n : Nat) (r : Records) : Answer :=
  if n = 0 then refuse .range
  else match r.hq.jobs.lookup n with
  | none => refuse .noRecord
  | some j => answer .ok (jobFields n j ++ [u8 (accountStateCode r j.owner)])

def execJobRead (tag : Tag) (n : Nat) (s : State) : Host.Outcome State Fault Refusal :=
  .next (takeRequest (.jobRead tag n) 0x2A tag (reads (answerJobRead n)) s)

/-- An entry of JOB_LIST (R49). -/
def jobListEntry (r : Records) (n : Nat) : List Field :=
  match r.hq.jobs.lookup n with
  | none => []
  | some j =>
    [u16 n, u8 j.stage.code, u8 j.size.code, u16 j.mono, u16 j.colour] ++ targetParts j.target ++ [deadlineField j.expiry]

/-- JOB_LIST (R49). -/
def answerJobList (i position : Nat) (r : Records) : Answer :=
  if Config.accounts ≤ i then refuse .range
  else match r.adir.accounts.lookup i with
  | none => refuse .noRecord
  | some a =>
    let entries := ((jobList r i).drop position).take Config.listEntries
    answer .ok [u8 a.liveJobs, listField (jobListEntry r) entries, u16 (position + entries.length)]

def execJobList (tag : Tag) (i position : Nat) (s : State) : Host.Outcome State Fault Refusal :=
  .next (takeRequest (.jobList tag i position) 0x2B tag (reads (answerJobList i position)) s)

/-! ### The hold setting and the expiry (R45, R54) -/

/-- HOLD_CONFIG (R54). -/
def handleHoldConfig (hours : Option Nat) (w : Work) : Work × Answer :=
  let w1 : Work := { w with hq := { w.hq with holdHours := selected 1 168 w.hq.holdHours hours } }
  w1.ok [u8 w1.hq.holdHours, u16 w1.hq.jobs.length, u16 w1.hq.lastJob]

def execHoldConfig (tag : Tag) (hours : Option Nat) (s : State) : Host.Outcome State Fault Refusal :=
  .next (takeRequest (.holdConfig tag hours) 0x2C tag (handleHoldConfig hours) s)

/-- A job's expiry falls due: a HELD job is removed with reason EXPIRED; in any other state it has no effect (R45). -/
def expiryFalls (n : Nat) (w : Work) : Work :=
  match w.hq.jobs.lookup n with
  | none => w
  | some j => if j.stage = .held ∧ j.expiry.reached w.now = true then removeJob n .expired 0 w else w

def execExpiryDeadline (n : Nat) (s : State) : Host.Outcome State Fault Refusal := .next (takeEvent (expiryFalls n) s)

end Sys2Proof.Machine
end

