-- ==== Sys2Proof/Machine/Link.lean ====
section
/-! DEFINITION. LNK's transactions, the MALFORMED marker and the link reset (11). One transaction is one command (log 7). -/

namespace Sys2Proof.Machine

/-! ### Link resets and the preparing of the link (R185, R186) -/

/-- The link as a start prepares it: queues and owed list empty, flags clear, every class enabled, the start kind recorded. -/
def Lnk.prepare (l : Lnk) (kind : StartKind) : Lnk :=
  { l with
    requests := [], replies := [], notices := [], owed := [], mask := 0x7F, inboxOverrun := false, noticesLost := false,
    startKind := kind }

/-- START's content; the two counts are a warm start's alone (R185), and absent in another start's (log 17). They are four bytes
wide each (log 18). -/
def startNotice (kind : StartKind) (uptime : Nat) (clockSet : Bool) (rolls : Option (Nat × Nat)) : Raised :=
  { kind := .start, key := 0
    body := [u8 kind.code, u32 uptime, flag clockSet, opt (fun r => u32 r.1) rolls, opt (fun r => u32 r.2) rolls] }

/-- A link reset: the link is prepared and START of kind LINK placed; no record changes (R186). -/
def State.linkReset (s : State) : State :=
  State.settleLines
    { s with lnk := (s.lnk.prepare .link).place (startNotice .link s.fck.uptime s.fck.clockSet none) }

/-- LINK_RESET is asserted and held (R186). -/
def execLinkResetAssert (s : State) : Host.Outcome State Fault Refusal :=
  .next (State.settleLines { s with lnk := { s.lnk with linkResetHeld := true } })

/-- LINK_RESET is released: where it was held, the link is reset (R186); while main power is off there is none to reset
(log 31). -/
def execLinkResetRelease (s : State) : Host.Outcome State Fault Refusal :=
  .next
    (if !s.lnk.linkResetHeld then s
    else
      let released : State := { s with lnk := { s.lnk with linkResetHeld := false } }
      if s.lnk.mainPower then released.linkReset else State.settleLines released)

/-! ### Transactions (R176) -/

/-- A transaction is taken unless LINK_RESET is held or main power is off (R176). -/
def Lnk.takesTransaction (l : Lnk) : Bool := l.mainPower && !l.linkResetHeld

/-- What the port returns for a transaction of so many bytes after the transaction byte, of which it defines some: 0x00 for the
transaction byte and for every byte past the defined ones (R176). -/
def returned (defined : List Byte) (clocked : Nat) : List Byte :=
  0 :: (defined.take clocked ++ List.replicate (clocked - defined.length) 0)

/-- A transaction that is ignored changes no queue, flag or line; its bytes read 0x00, and with main power off there is none
(log 8). -/
def State.ignoreTransaction (s : State) (clocked : Nat) : State :=
  { s with lnk := { s.lnk with dataOut := if s.lnk.mainPower then returned [] clocked else [] } }

/-- A transaction's effect on the link, at the release of SELECT; the lines settle. -/
def transact (clocked : Nat) (defined : Lnk → List Byte) (f : Lnk → Lnk) (s : State) : State :=
  if s.lnk.takesTransaction then
    State.settleLines { s with lnk := f { s.lnk with dataOut := returned (defined s.lnk) clocked } }
  else s.ignoreTransaction clocked

/-- A frame's effect: discarded with INBOX_OVERRUN set where READY is deasserted, else its entries join the request queue
(R177). -/
def Lnk.takeFrame (bytes : List Byte) (l : Lnk) : Lnk :=
  if readyLine l then { l with requests := l.requests ++ frameEntries bytes } else { l with inboxOverrun := true }

/-- WRITE_FRAME (R177, R178). -/
def execWriteFrame (bytes : List Byte) (s : State) : Host.Outcome State Fault Refusal :=
  .next (transact bytes.length (fun _ => []) (Lnk.takeFrame bytes) s)

/-- The reply record at the head, or NONE (R180). -/
def replyRecord (l : Lnk) : List Byte :=
  match l.replies with
  | [] => noneRecord
  | r :: _ => r.record

/-- A reply leaves once all its bytes have been clocked (R180). -/
def Lnk.takeReply (clocked : Nat) (l : Lnk) : Lnk :=
  match l.replies with
  | [] => l
  | r :: rest => if r.record.length ≤ clocked then { l with replies := rest } else l

/-- READ_REPLY (R180). -/
def execReadReply (clocked : Nat) (s : State) : Host.Outcome State Fault Refusal :=
  .next (transact clocked replyRecord (Lnk.takeReply clocked) s)

/-- The notice record at the head, or NONE (R182). -/
def noticeRecord (l : Lnk) : List Byte :=
  match l.notices with
  | [] => noneRecord
  | n :: _ => n.record

/-- A notice leaves once all its bytes have been clocked, and the oldest owed notice moves to the tail of the queue (R182). -/
def Lnk.takeNotice (clocked : Nat) (l : Lnk) : Lnk :=
  match l.notices with
  | [] => l
  | n :: rest =>
    if n.record.length ≤ clocked then { l with notices := rest ++ l.owed.take 1, owed := l.owed.drop 1 } else l

/-- READ_NOTICE (R182). -/
def execReadNotice (clocked : Nat) (s : State) : Host.Outcome State Fault Refusal :=
  .next (transact clocked noticeRecord (Lnk.takeNotice clocked) s)

/-- The link status record (R184, 11.9). -/
def statusRecord (clockSet : Bool) (l : Lnk) : List Byte :=
  beBytes 1 l.requests.length ++ beBytes 1 l.replies.length ++ beBytes 1 l.notices.length ++ beBytes 2 l.owed.length
    ++ beBytes 1 (statusFlags l clockSet) ++ beBytes 1 l.startKind.code ++ [l.mask]

/-- The flags clear once the flags byte has been clocked: the sixth byte of the record (R184). -/
def Lnk.takeStatus (clocked : Nat) (l : Lnk) : Lnk :=
  if 6 ≤ clocked then { l with inboxOverrun := false, noticesLost := false } else l

/-- READ_LINK_STATUS (R184). -/
def execReadLinkStatus (clocked : Nat) (s : State) : Host.Outcome State Fault Refusal :=
  .next (transact clocked (statusRecord s.fck.clockSet) (Lnk.takeStatus clocked) s)

/-- The mask takes the value of a mask byte that is complete (R183). -/
def Lnk.takeMask (bytes : List Byte) (l : Lnk) : Lnk :=
  match bytes with
  | [] => l
  | b :: _ => { l with mask := b }

/-- SET_ATTENTION_MASK (R183). -/
def execSetAttentionMask (bytes : List Byte) (s : State) : Host.Outcome State Fault Refusal :=
  .next (transact bytes.length (fun _ => []) (Lnk.takeMask bytes) s)

/-- RESYNC: its transaction byte alone makes a link reset (R186); further bytes, none unless said, read 0x00 (R176). -/
def execResync (s : State) (clocked : Nat := 0) : Host.Outcome State Fault Refusal :=
  .next
    (if s.lnk.takesTransaction then
      State.linkReset { s with lnk := { s.lnk with dataOut := returned [] clocked } }
    else s.ignoreTransaction clocked)

/-! ### The MALFORMED marker (R179) -/

/-- LNK answers the MALFORMED marker at the head of the request queue, where the reply queue has room: its code and tag, the
offset of the first byte found wrong and the number of bytes discarded (R179). -/
def execMalformedMarker (s : State) : Host.Outcome State Fault Refusal :=
  .next
    (match s.lnk.requests with
    | .marker code tag offset discarded :: rest =>
      if s.lnk.mainPower && s.lnk.replyRoom then
        let reply : Reply := { code, outcome := .malformed, tag, body := [u32 offset, u32 discarded] }
        State.settleLines { s with lnk := Lnk.reply { s.lnk with requests := rest } reply }
      else s
    | _ => s)

end Sys2Proof.Machine
end

