-- ==== Sys2Proof/Machine/PrinterOps.lean ====
section
/-! DEFINITION. PTB's verdicts (05): conditions and their classes, qualification, the moves between service states, and what the
neighbouring blocks do when they are told (R78, R98, R149, R151). -/

namespace Sys2Proof.Machine

/-! ### Conditions (R85) -/

/-- The FAULT-class conditions, in the order of R85. -/
def faultConditions : List Condition := [.paperOut, .paperJam, .doorOpen, .fuser, .engine, .offline]

/-- A condition is in a set. -/
def CondSet.has (s : CondSet) (c : Condition) : Bool := s.getLsbD (conditionCode c)

/-- The FAULT conditions of a set. -/
def liveFaults (s : CondSet) : List Condition := faultConditions.filter (CondSet.has s)

/-- A set holds no FAULT condition. -/
def clean (s : CondSet) : Bool := (liveFaults s).isEmpty

/-- A remote restart may cure the condition (R85). -/
def restartable : Condition → Bool
  | .fuser => true
  | .engine => true
  | .offline => true
  | _ => false

/-- The qualification time of a condition (R103); PAPER_LOW has none. -/
def Ptb.qualificationTime (p : Ptb) : Condition → Nat
  | .paperLow => 0
  | .paperOut => p.paperOut
  | .paperJam => p.paperJam
  | .doorOpen => p.doorOpen
  | .fuser => p.fuser
  | .engine => p.engine
  | .offline => p.offline

/-- A condition's deadline among a printer's qualification deadlines. -/
def qualificationOf? (l : List (Condition × Deadline)) (c : Condition) : Option Deadline :=
  (l.find? (fun e => decide (e.1 = c))).map (·.2)

/-- The qualification deadlines of a live set: a condition that was live keeps the one it has, and a new one is armed (R89). -/
def qualify (now : Nat) (ptb : Ptb) (held : List (Condition × Deadline)) (live : CondSet) : List (Condition × Deadline) :=
  (liveFaults live).map (fun c => (c, (qualificationOf? held c).getD (arm now (ptb.qualificationTime c))))

/-! ### Deadlines of one printer (R105, R168) -/

/-- The deadlines PTB holds for a printer. -/
def Printer.deadlines (p : Printer) : List Deadline :=
  p.qualification.map (·.2) ++ p.heartbeat.toList ++ p.absence.toList ++ p.restart.toList ++ p.restartCredit.toList

/-- A deadline of a printer may be taken: it has been reached, and the printer holds no earlier one (R105). -/
def Printer.due (p : Printer) (now : Nat) (d : Deadline) : Bool :=
  d.reached now && p.deadlines.all (fun e => !(e.reached now) || decide (d.value ≤ e.value))

/-- An optional deadline of a printer may be taken. -/
def Printer.due? (p : Printer) (now : Nat) (d : Option Deadline) : Bool :=
  match d with
  | none => false
  | some d => p.due now d

/-! ### Moves of the service state -/

/-- The heartbeat deadline is armed (R87, R91, R96). -/
def armHeartbeat (now : Nat) (p : Printer) : Printer := { p with heartbeat := some (arm now p.heartbeatTimeout) }

/-- A printer enters IN_SERVICE: no cause, no qualification, no restart deadline, and the restart credit armed where a restart
has been used (R88, R91, R92, R95). -/
def toInService (now : Nat) (p : Printer) : Printer :=
  { p with
    state := .inService, qualification := [], restart := none,
    restartCredit := if p.restartUsed then some (arm now Config.restartCredit) else none }

/-- A printer is or enters QUALIFYING, with a deadline for each live FAULT condition (R88, R89, R97). -/
def toQualifying (now : Nat) (ptb : Ptb) (p : Printer) : Printer :=
  { p with state := .qualifying, qualification := qualify now ptb p.qualification p.live, restartCredit := none }

/-- A printer enters OUT_OF_SERVICE (R90, R91, R96). -/
def toOutOfService (cause : OutCause) (p : Printer) : Printer :=
  { p with state := .outOfService cause, qualification := [], restart := none, restartCredit := none }

/-- A printer enters RESTARTING (R91). -/
def toRestarting (now : Nat) (ptb : Ptb) (p : Printer) : Printer :=
  { p with
    state := .restarting, qualification := [], restartCredit := none, restartUsed := true, heartbeat := none,
    restart := some (arm now ptb.restartWindow) }

/-- Whether a report returns a printer from OUT_OF_SERVICE (R95), its live set already recorded. -/
def returnsByReport (cause : OutCause) (p : Printer) : Bool :=
  decide (cause ≠ .byRequest) && p.autoReturn && clean p.live

/-- The state a report leaves, its live set and presence already recorded (R88, R91, R95). -/
def reportedState (now : Nat) (ptb : Ptb) (p : Printer) : Printer :=
  match p.state with
  | .absent => if clean p.live then toInService now p else toQualifying now ptb p
  | .inService => if clean p.live then p else toQualifying now ptb p
  | .qualifying => if clean p.live then toInService now p else toQualifying now ptb p
  | .restarting => if clean p.live then toInService now (armHeartbeat now p) else p
  | .outOfService cause => if returnsByReport cause p then toInService now p else p
  | .retiring _ => p

/-- The states in which a report arms the heartbeat deadline (R87 step 2). -/
def ServiceState.heartbeatArmed : ServiceState → Bool
  | .absent => true
  | .inService => true
  | .qualifying => true
  | .outOfService _ => true
  | _ => false

/-! ### Telling the neighbours (R78, R98) -/

/-- The state is OUT_OF_SERVICE. -/
def ServiceState.isOut : ServiceState → Bool
  | .outOfService _ => true
  | _ => false

/-- IN_SERVICE or QUALIFYING: an OPEN visit may stand and jobs be RELEASING (R78). -/
def ServiceState.serving : ServiceState → Bool
  | .inService => true
  | .qualifying => true
  | _ => false

/-- ABSENT, RESTARTING or OUT_OF_SERVICE (R78). -/
def ServiceState.stopped : ServiceState → Bool
  | .absent => true
  | .restarting => true
  | .outOfService _ => true
  | _ => false

/-- RLU's part: a printer that stops serving has its visit closed with reason SERVICE, and then its RELEASING jobs returned
(R78). -/
def tellRelease (printer : Nat) (old new : ServiceState) (w : Work) : Work :=
  if old.serving ∧ new.stopped then
    returnReleasing printer (if new.isOut then some printer else none) (closeVisit printer .service w)
  else w

/-- HQ's part: the reroute pass of an entry into OUT_OF_SERVICE (R51). -/
def tellHold (printer : Nat) (old new : ServiceState) (w : Work) : Work :=
  if !old.isOut ∧ new.isOut then reroutePass printer w else w

/-- The printer's tickets of the kinds a service state brings; an owed entry likewise. -/
def faultTicket (printer : Nat) (t : Ticket) : Bool := t.printer == printer && t.kind.outOfService
def faultOwed (printer : Nat) (o : OwedCause) : Bool := o.printer == printer && o.kind.outOfService

/-- COU ends a printer's FAULT or RESTART ticket, open or owed (R149, R151). -/
def endFault (printer : Nat) (reason : ResolveReason) (w : Work) : Work :=
  resolveWhere (faultTicket printer) reason (dropOwed (faultOwed printer) w)

/-- COU's part: a cause at an entry into OUT_OF_SERVICE, a withdrawal inside it, and the leaving of it (R98, R143, R149). -/
def tellCallouts (printer : Nat) (old new : ServiceState) (w : Work) : Work :=
  match old, new with
  | .outOfService _, .outOfService .byRequest => endFault printer .withdrawn w
  | .outOfService _, .outOfService _ => w
  | _, .outOfService (.fault c) => arise printer (.fault c) w
  | _, .outOfService .restartFailed => arise printer .restart w
  | .outOfService _, _ => endFault printer .cleared w
  | _, _ => w

/-- The blocks whose records depend on the printer act on a change of its state (R98). -/
def tellNeighbours (printer : Nat) (old new : ServiceState) (w : Work) : Work :=
  if old = new then w else tellCallouts printer old new (tellHold printer old new (tellRelease printer old new w))

/-- A change of a printer's health: the record is written, PRINTER_STATE is raised where the state, the cause or presence
changed, and the neighbours are told (R98). -/
def changePrinter (i : Nat) (old new : Printer) (w : Work) : Work :=
  let w1 := w.setPrinter i new
  let w2 := if old.state = new.state ∧ old.present = new.present then w1 else raisePrinterState i old.state.code w1
  tellNeighbours i old.state new.state w2

/-- The end of a handling that may have returned RELEASING jobs of some owners: after what SPU and COU do there, the retirements of
those owners complete where nothing of theirs is left in flight (R72, R160). -/
def endReturns (owners : List Nat) (w : Work) : Work := completeAccounts owners (endHandling w)

/-- A change of a printer's health, to the end of its handling. -/
def finishChange (i : Nat) (old new : Printer) (w : Work) : Work :=
  endReturns (releasingOwners w.toRecords i) (changePrinter i old new w)

/-! ### Presence (R87 step 1, R94) -/

def absenceTicket (printer : Nat) (t : Ticket) : Bool := t.printer == printer && decide (t.kind = .absence)
def absenceOwed (printer : Nat) (o : OwedCause) : Bool := o.printer == printer && decide (o.kind = .absence)

/-- COU is told of the return of presence: the ABSENCE ticket, open or owed, ends (R149, R151). -/
def endAbsence (printer : Nat) (w : Work) : Work :=
  resolveWhere (absenceTicket printer) .cleared (dropOwed (absenceOwed printer) w)

end Sys2Proof.Machine
end

