-- ==== Sys2Proof/Machine/Printers.lean ====
section
/-! DEFINITION. PTB's requests and deadlines (05). -/

namespace Sys2Proof.Machine

/-! ### Configuration (R100 to R102) -/

/-- The configuration of a printer, in the order of R100 (R83). -/
def printerConfig (p : Printer) : List Field :=
  [u8 p.floor, opt u8 p.sibling, flag p.colourCapable, flag p.duplex, flag p.largeTray, u8 p.modelGroup, u8 p.slotCount,
    u16 p.heartbeatTimeout, flag p.autoReturn, flag p.restartPermitted]

/-- Why a sibling cannot be named: out of range, the printer's own, FREE, or RETIRING (R100 step 5). -/
def siblingRefusal? (r : Records) (printer : Nat) : Option Nat → Option ReplyOutcome
  | none => none
  | some s =>
    if Config.printers ≤ s ∨ s = printer then some .range
    else match r.ptb.printers.lookup s with
      | none => some .range
      | some p => match p.state with
        | .retiring _ => some .retiring
        | _ => none

/-- Floor, model group and slot count in their ranges (R100 step 3). -/
def configInRange (floor modelGroup slotCount : Nat) : Bool :=
  decide (floor < Config.floors) && decide (modelGroup < 16) && (slotCount == 1 || slotCount == 4)

/-- The record an accepted PRINTER_ADD fills (R100). -/
def addedPrinter (f : PrinterAdd) : Printer where
  state := .absent
  present := false
  floor := f.floor
  sibling := f.sibling
  colourCapable := yes f.colour
  duplex := yes f.duplex
  largeTray := yes f.largeTray
  modelGroup := f.modelGroup
  slotCount := f.slotCount
  heartbeatTimeout := clamp 30 3600 f.heartbeatTimeout
  autoReturn := yes f.autoReturn
  restartPermitted := yes f.restartPermitted
  restartUsed := false
  live := 0
  latched := 0
  qualification := []
  heartbeat := none
  absence := none
  restart := none
  restartCredit := none

/-- PRINTER_ADD (R100). -/
def handlePrinterAdd (f : PrinterAdd) (w : Work) : Work × Answer :=
  if !yesNos [f.colour, f.duplex, f.largeTray, f.autoReturn, f.restartPermitted] then w.refuse .range
  else if Config.printers ≤ f.printer then w.refuse .range
  else match w.ptb.printers.lookup f.printer with
  | some p => w.refuse (match p.state with
      | .retiring _ => .retiring
      | _ => .duplicate)
  | none =>
    if !configInRange f.floor f.modelGroup f.slotCount then w.refuse .range
    else if yes f.colour ∧ f.slotCount ≠ 4 then w.refuse .range
    else match siblingRefusal? w.toRecords f.printer f.sibling with
    | some o => w.refuse o
    | none =>
      (raisePrinterState f.printer 0 (w.setPrinter f.printer (addedPrinter f))).ok (printerConfig (addedPrinter f))

def execPrinterAdd (tag : Tag) (f : PrinterAdd) (s : State) : Host.Outcome State Fault Refusal :=
  .next (takeRequest (.printerAdd tag f) 0x40 tag (handlePrinterAdd f) s)

/-- The fields PRINTER_SET selects, stored (R101). -/
def setPrinterFields (f : PrinterSet) (p : Printer) : Printer :=
  { p with
    floor := f.floor.getD p.floor
    sibling := f.sibling.getD p.sibling
    colourCapable := selectedYes p.colourCapable f.colour
    duplex := selectedYes p.duplex f.duplex
    largeTray := selectedYes p.largeTray f.largeTray
    modelGroup := f.modelGroup.getD p.modelGroup
    slotCount := f.slotCount.getD p.slotCount
    heartbeatTimeout := selected 30 3600 p.heartbeatTimeout f.heartbeatTimeout
    autoReturn := selectedYes p.autoReturn f.autoReturn
    restartPermitted := selectedYes p.restartPermitted f.restartPermitted }

/-- One of the slots of those letters is fitted. -/
def anyFitted (r : Records) (printer : Nat) (letters : List SlotLetter) : Bool :=
  letters.any (fun l => (r.spu.slots.lookup (slotKey printer l)).isSome)

/-- Why a PRINTER_SET is refused once the printer is known (R101 steps 3 to 6). -/
def printerSetRefusal? (r : Records) (f : PrinterSet) (p : Printer) : Option ReplyOutcome :=
  let p' := setPrinterFields f p
  if !configInRange (f.floor.getD 0) (f.modelGroup.getD 0) (f.slotCount.getD 1) then some .range
  else match siblingRefusal? r f.printer (f.sibling.getD none) with
  | some o => some o
  | none =>
    if p'.colourCapable ∧ p'.slotCount ≠ 4 then some .range
    else if p'.slotCount = 1 ∧ anyFitted r f.printer [.c, .m, .y] then some .state
    else if p'.modelGroup ≠ p.modelGroup ∧ anyFitted r f.printer [.k, .c, .m, .y] then some .state
    else none

/-- PRINTER_SET (R101). -/
def handlePrinterSet (f : PrinterSet) (w : Work) : Work × Answer :=
  if !yesNos (f.colour.toList ++ f.duplex.toList ++ f.largeTray.toList ++ f.autoReturn.toList ++ f.restartPermitted.toList) then
    w.refuse .range
  else if Config.printers ≤ f.printer then w.refuse .range
  else match w.ptb.printers.lookup f.printer with
  | none => w.refuse .noRecord
  | some p =>
    match p.state with
    | .retiring _ => w.refuse .retiring
    | _ =>
      match printerSetRefusal? w.toRecords f p with
      | some o => w.refuse o
      | none => (w.setPrinter f.printer (setPrinterFields f p)).ok (printerConfig (setPrinterFields f p))

def execPrinterSet (tag : Tag) (f : PrinterSet) (s : State) : Host.Outcome State Fault Refusal :=
  .next (takeRequest (.printerSet tag f) 0x41 tag (handlePrinterSet f) s)

/-- The number of printers whose sibling is this one (R102). -/
def siblingsOf (r : Records) (i : Nat) : Nat := (r.ptb.printers.filter (fun e => e.2.sibling == some i)).length

/-- PRINTER_READ (R102): the fields of R83 in its order, the in-flight count and the number of siblings. The qualification
deadlines are one list field in their place in R83, each element its condition and then its uptime (log 17). -/
def answerPrinterRead (i : Nat) (r : Records) : Answer :=
  if Config.printers ≤ i then refuse .range
  else match r.ptb.printers.lookup i with
  | none => refuse .noRecord
  | some p => answer .ok
      ([u8 p.state.code, flag p.present] ++ printerConfig p ++
        [flag p.restartUsed, compound (causeParts p.state), condSetField p.live, condSetField p.latched,
          listField (fun e => [u8 (conditionCode e.1), deadlineField e.2]) p.qualification,
          opt deadlineField p.heartbeat, opt deadlineField p.absence, opt deadlineField p.restart,
          opt deadlineField p.restartCredit, u8 (inFlightList r i).length, u32 (siblingsOf r i)])

def execPrinterRead (tag : Tag) (i : Nat) (s : State) : Host.Outcome State Fault Refusal :=
  .next (takeRequest (.printerRead tag i) 0x42 tag (reads (answerPrinterRead i)) s)

/-! ### Reports (R86 to R88, R91, R95, R99) -/

/-- The readings of a report that are examined: one for each slot of the printer. None where a slot has no reading, or one that
is not OK, LOW or OUT (R87 step 3; log 16). -/
def examined? (slotCount : Nat) (readings : List Nat) : Option (List Reading) :=
  if readings.length < slotCount then none else (readings.take slotCount).mapM reading?

/-- SPU takes the examined readings, slot by slot (R87 step 4). -/
def takeReadings (printer : Nat) (readings : List Reading) (w : Work) : Work :=
  ([SlotLetter.k, .c, .m, .y].zip readings).foldl (fun w e => readSensor printer e.1 e.2 w) w

/-- The record after steps 1 to 3 of R87: presence, heartbeat and conditions. -/
def recordReport (now : Nat) (live : CondSet) (p : Printer) : Printer :=
  let p1 := { p with present := true, absence := if p.present then p.absence else none }
  let p2 := if p1.state.heartbeatArmed then armHeartbeat now p1 else p1
  { p2 with live, latched := p2.latched ||| live }

/-- An accepted STATUS_REPORT: presence, readings, and the move of the state with what it brings (R87). A cause that a reading
brings takes a slot of the ticket table that the return of presence has freed, and the owed causes open at the end (log 38). -/
def takeReport (i : Nat) (live : CondSet) (readings : List Reading) (p : Printer) (w : Work) : Work × Answer :=
  let recorded := recordReport w.now live p
  let final := reportedState w.now w.ptb recorded
  let w1 := if p.present then w else endAbsence i w
  let w2 := w1.setPrinter i recorded
  let w3 := match p.state with
    | .retiring _ => w2
    | _ => takeReadings i readings w2
  (finishChange i p final w3).ok
    [u8 final.state.code, flag final.present, compound (causeParts final.state), condSetField final.live,
      condSetField final.latched, opt deadlineField final.heartbeat]

/-- STATUS_REPORT (R87). -/
def handleStatusReport (i conditions : Nat) (readings : List Nat) (w : Work) : Work × Answer :=
  match condSet? conditions with
  | none => w.refuse .range
  | some live =>
    if Config.printers ≤ i then w.refuse .range
    else match w.ptb.printers.lookup i with
    | none => w.refuse .noRecord
    | some p =>
      match examined? p.slotCount readings with
      | none => w.refuse .range
      | some l => takeReport i live l p w

def execStatusReport (tag : Tag) (i conditions : Nat) (readings : List Nat) (s : State) : Host.Outcome State Fault Refusal :=
  .next (takeRequest (.statusReport tag i conditions readings) 0x43 tag (handleStatusReport i conditions readings) s)

/-- CONDITIONS_CLEAR (R99). -/
def handleConditionsClear (i conditions : Nat) (w : Work) : Work × Answer :=
  match condSet? conditions with
  | none => w.refuse .range
  | some named =>
    if Config.printers ≤ i then w.refuse .range
    else match w.ptb.printers.lookup i with
    | none => w.refuse .noRecord
    | some p =>
      let latched := p.latched &&& ~~~(named &&& ~~~p.live)
      (w.setPrinter i { p with latched }).ok [condSetField latched, condSetField (named &&& p.live)]

def execConditionsClear (tag : Tag) (i conditions : Nat) (s : State) : Host.Outcome State Fault Refusal :=
  .next (takeRequest (.conditionsClear tag i conditions) 0x44 tag (handleConditionsClear i conditions) s)

/-! ### Withdrawal and return (R96, R97) -/

/-- The record SERVICE_WITHDRAW leaves (R96); none where the printer is RETIRING. -/
def withdrawnPrinter? (now : Nat) (p : Printer) : Option Printer :=
  match p.state with
  | .retiring _ => none
  | .outOfService _ => some { p with state := .outOfService .byRequest }
  | .restarting => some (armHeartbeat now (toOutOfService .byRequest p))
  | _ => some (toOutOfService .byRequest p)

/-- SERVICE_WITHDRAW (R96). -/
def handleServiceWithdraw (i : Nat) (w : Work) : Work × Answer :=
  if Config.printers ≤ i then w.refuse .range
  else match w.ptb.printers.lookup i with
  | none => w.refuse .noRecord
  | some p =>
    match withdrawnPrinter? w.now p with
    | none => w.refuse .retiring
    | some p' => (finishChange i p p' w).ok [u8 p.state.code, compound (causeParts p.state)]

def execServiceWithdraw (tag : Tag) (i : Nat) (s : State) : Host.Outcome State Fault Refusal :=
  .next (takeRequest (.serviceWithdraw tag i) 0x45 tag (handleServiceWithdraw i) s)

/-- Where SERVICE_RETURN takes a printer, by its presence and its live set (R97). -/
def returnedPrinter (now : Nat) (ptb : Ptb) (p : Printer) : Printer :=
  if !p.present then { p with state := .absent, heartbeat := none }
  else if clean p.live then toInService now p
  else toQualifying now ptb p

/-- SERVICE_RETURN (R97). -/
def handleServiceReturn (i : Nat) (w : Work) : Work × Answer :=
  if Config.printers ≤ i then w.refuse .range
  else match w.ptb.printers.lookup i with
  | none => w.refuse .noRecord
  | some p =>
    match p.state with
    | .retiring _ => w.refuse .retiring
    | .outOfService _ =>
      let p' := returnedPrinter w.now w.ptb p
      (finishChange i p p' w).ok [u8 p'.state.code]
    | _ => w.refuse .state

def execServiceReturn (tag : Tag) (i : Nat) (s : State) : Host.Outcome State Fault Refusal :=
  .next (takeRequest (.serviceReturn tag i) 0x46 tag (handleServiceReturn i) s)

/-! ### The health settings (R103) -/

/-- The health settings a HEALTH_CONFIG leaves. -/
def setHealth (f : HealthConfig) (p : Ptb) : Ptb :=
  { p with
    paperOut := selected 0 3600 p.paperOut f.paperOut
    paperJam := selected 0 3600 p.paperJam f.paperJam
    doorOpen := selected 0 3600 p.doorOpen f.doorOpen
    fuser := selected 0 3600 p.fuser f.fuser
    engine := selected 0 3600 p.engine f.engine
    offline := selected 0 3600 p.offline f.offline
    restartWindow := selected 120 1800 p.restartWindow f.restartWindow
    absenceDelay := selected 60 86400 p.absenceDelay f.absenceDelay }

/-- HEALTH_CONFIG (R103). -/
def handleHealthConfig (f : HealthConfig) (w : Work) : Work × Answer :=
  let p := setHealth f w.ptb
  Work.ok { w with ptb := p }
    [u16 p.paperOut, u16 p.paperJam, u16 p.doorOpen, u16 p.fuser, u16 p.engine, u16 p.offline, u16 p.restartWindow,
      u32 p.absenceDelay]

def execHealthConfig (tag : Tag) (f : HealthConfig) (s : State) : Host.Outcome State Fault Refusal :=
  .next (takeRequest (.healthConfig tag f) 0x47 tag (handleHealthConfig f) s)

/-! ### Deadlines (R90 to R94) -/

/-- RESTART_REQUEST: the printer, the condition and the restart deadline (R91). -/
def raiseRestartRequest (i : Nat) (c : Condition) (p : Printer) (w : Work) : Work :=
  w.raise .restartRequest i [u8 i, u8 (conditionCode c), opt deadlineField p.restart]

/-- The verdict on a condition that has outlasted its time, to the end of its handling (R90, R91). RESTART_REQUEST is raised before
PRINTER_STATE (log 11). -/
def verdict (i : Nat) (c : Condition) (p : Printer) (w : Work) : Work :=
  if restartable c ∧ p.restartPermitted ∧ !p.restartUsed then
    let p' := toRestarting w.now w.ptb p
    finishChange i p p' (raiseRestartRequest i c p' w)
  else finishChange i p (toOutOfService (.fault c) p) w

/-- A qualification deadline falls due (R90). -/
def qualificationFalls (i : Nat) (c : Condition) (w : Work) : Work :=
  match w.ptb.printers.lookup i with
  | none => w
  | some p =>
    if p.state = .qualifying ∧ p.due? w.now (qualificationOf? p.qualification c) then verdict i c p w else w

def execQualificationDeadline (i : Nat) (c : Condition) (s : State) : Host.Outcome State Fault Refusal :=
  .next (takeEvent (qualificationFalls i c) s)

/-- The restart deadline falls due: OUT_OF_SERVICE with cause RESTART_FAILED, and the heartbeat armed (R91). -/
def restartFalls (i : Nat) (w : Work) : Work :=
  match w.ptb.printers.lookup i with
  | none => w
  | some p =>
    if p.state = .restarting ∧ p.due? w.now p.restart then
      finishChange i p (armHeartbeat w.now (toOutOfService .restartFailed p)) w
    else w

def execRestartDeadline (i : Nat) (s : State) : Host.Outcome State Fault Refusal := .next (takeEvent (restartFalls i) s)

/-- The restart credit deadline falls due: restart used becomes no (R92). -/
def restartCreditFalls (i : Nat) (w : Work) : Work :=
  match w.ptb.printers.lookup i with
  | none => w
  | some p =>
    if p.due? w.now p.restartCredit then w.setPrinter i { p with restartUsed := false, restartCredit := none } else w

def execRestartCreditDeadline (i : Nat) (s : State) : Host.Outcome State Fault Refusal :=
  .next (takeEvent (restartCreditFalls i) s)

/-- The record a fall of the heartbeat deadline leaves (R93). -/
def silentPrinter (now : Nat) (ptb : Ptb) (p : Printer) : Printer :=
  let p1 := { p with present := false, heartbeat := none, absence := some (arm now ptb.absenceDelay) }
  if p.state.serving then { p1 with state := .absent, qualification := [], restartCredit := none } else p1

/-- The heartbeat deadline falls due (R93). -/
def heartbeatFalls (i : Nat) (w : Work) : Work :=
  match w.ptb.printers.lookup i with
  | none => w
  | some p =>
    if p.due? w.now p.heartbeat then finishChange i p (silentPrinter w.now w.ptb p) w else w

def execHeartbeatDeadline (i : Nat) (s : State) : Host.Outcome State Fault Refusal := .next (takeEvent (heartbeatFalls i) s)

/-- The absence deadline falls due: an ABSENCE cause arises, unless the printer was withdrawn by request (R94). -/
def absenceFalls (i : Nat) (w : Work) : Work :=
  match w.ptb.printers.lookup i with
  | none => w
  | some p =>
    if p.due? w.now p.absence then
      let w1 := w.setPrinter i { p with absence := none }
      if p.state = .outOfService .byRequest then w1 else endHandling (arise i .absence w1)
    else w

def execAbsenceDeadline (i : Nat) (s : State) : Host.Outcome State Fault Refusal := .next (takeEvent (absenceFalls i) s)

end Sys2Proof.Machine
end

