-- ==== Sys2Proof/Machine/Quota.lean ====
section
/-! DEFINITION. QTU's requests (02): credits, the peak, and the quota settings. -/

namespace Sys2Proof.Machine

/-- ACCOUNT_CREDIT (R29): the reply carries the amount applied, the new balance, the available points and the warn state. -/
def handleAccountCredit (i : Nat) (amount : Int) (w : Work) : Work × Answer :=
  if Config.accounts ≤ i then w.refuse .range
  else match w.adir.accounts.lookup i with
  | none => w.refuse .noRecord
  | some a =>
    let a' := { a with balance := credited a.balance amount }
    (evaluateWarning i (w.setAccount i a')).ok
      [s32 (a'.balance - a.balance), s32 a'.balance, s32 a'.available, flag (warnStateAfter a')]

def execAccountCredit (tag : Tag) (i : Nat) (amount : Int) (s : State) : Host.Outcome State Fault Refusal :=
  .next (takeRequest (.accountCredit tag i amount) 0x15 tag (handleAccountCredit i amount) s)

/-- POOL_CREDIT (R30). -/
def handlePoolCredit (i : Nat) (amount : Int) (w : Work) : Work × Answer :=
  if Config.pools ≤ i then w.refuse .range
  else match w.adir.pools.lookup i with
  | none => w.refuse .noRecord
  | some p =>
    let p' := { p with balance := credited p.balance amount }
    (w.setPool i p').ok [s32 (p'.balance - p.balance), s32 p'.balance, s32 p'.available]

def execPoolCredit (tag : Tag) (i : Nat) (amount : Int) (s : State) : Host.Outcome State Fault Refusal :=
  .next (takeRequest (.poolCredit tag i amount) 0x1F tag (handlePoolCredit i amount) s)

/-- PEAK_CLEAR (R32): the reply carries the peak that stood before. -/
def handlePeakClear (i : Nat) (w : Work) : Work × Answer :=
  if Config.accounts ≤ i then w.refuse .range
  else match w.adir.accounts.lookup i with
  | none => w.refuse .noRecord
  | some a => (w.setAccount i { a with peak := 0 }).ok [u32 a.peak]

def execPeakClear (tag : Tag) (i : Nat) (s : State) : Host.Outcome State Fault Refusal :=
  .next (takeRequest (.peakClear tag i) 0x16 tag (handlePeakClear i) s)

/-- QUOTA_CONFIG (R20): the reply carries the three settings, the period countdown and the day index. -/
def handleQuotaConfig (mono colour period : Option Nat) (w : Work) : Work × Answer :=
  let q : Qtu :=
    { monoWeight := selected 1 15 w.qtu.monoWeight mono
      colourWeight := selected 1 63 w.qtu.colourWeight colour
      periodLength := selected 1 62 w.qtu.periodLength period }
  Work.ok { w with qtu := q }
    [u8 q.monoWeight, u8 q.colourWeight, u8 q.periodLength, u8 w.fck.countdown, u16 w.fck.dayIndex]

def execQuotaConfig (tag : Tag) (mono colour period : Option Nat) (s : State) : Host.Outcome State Fault Refusal :=
  .next (takeRequest (.quotaConfig tag mono colour period) 0x20 tag (handleQuotaConfig mono colour period) s)

end Sys2Proof.Machine
end

