-- ==== Sys2Proof/Machine/Release.lean ====
section
/-! DEFINITION. RLU's requests and events (04): badges, terminal keys, drains, spool and page reports, windows, settings and
reads. -/

namespace Sys2Proof.Machine

/-- A printer is IN_SERVICE. -/
def inService (r : Records) (printer : Nat) : Bool :=
  match r.ptb.printers.lookup printer with
  | none => false
  | some p => decide (p.state = .inService)

/-! ### Presenting a badge (R59 to R61) -/

/-- Why the printer takes no badge, with the reply's further fields: out of range, FREE, RETIRING, or not IN_SERVICE, whose
refusal carries the printer's state (R59 step 3). -/
def badgePrinterRefusal? (r : Records) (printer : Nat) : Option (ReplyOutcome × List Field) :=
  if Config.printers ≤ printer then some (.range, [])
  else match r.ptb.printers.lookup printer with
  | none => some (.noRecord, [])
  | some p =>
    match p.state with
    | .retiring _ => some (.retiring, [])
    | .inService => none
    | other => some (.service, [u8 other.code])

/-- A context is DRAINING. -/
def draining (r : Records) (printer : Nat) : Bool :=
  match r.rlu.visits.lookup printer with
  | some (.draining _) => true
  | _ => false

/-- The account of the visit at a terminal. -/
def visitAccount? (r : Records) (printer : Nat) : Option Nat := (r.rlu.visits.lookup printer).map Visit.account

/-- The visits in the way of a presentation are closed with reason TAKEN: the account's at another terminal, and another
account's at this one (R60). Where both stand, the account's own is closed first, an order that R60 does not give (log 11). -/
def clearTheWay (printer account : Nat) (w : Work) : Work :=
  let w1 := match openVisit? w.toRecords account with
    | none => w
    | some p => if p = printer then w else closeVisit p .taken w
  match visitAccount? w1.toRecords printer with
  | none => w1
  | some a => if a = account then w1 else closeVisit printer .taken w1

/-- An entry of the menu in the reply (R61). -/
def menuEntry (r : Records) (n : Nat) : List Field :=
  match r.hq.jobs.lookup n with
  | none => []
  | some j => [u16 n, u16 j.mono, u16 j.colour, u8 j.size.code, flag j.duplex] ++ targetParts j.target

/-- The menu built for an account at a printer (R61). -/
def builtVisit (r : Records) (printer account now idle : Nat) : OpenVisit :=
  let found := eligibleJobs r printer account
  { account, menu := found.take Config.menuSize, more := (found.drop Config.menuSize).length, cursor := 0
    idle := arm now idle }

/-- RLU builds the menu: the visit opens, or, on an empty menu, a standing visit of the account is closed and the reply is
NO_JOBS (R61). -/
def buildMenu (printer account : Nat) (w : Work) : Work × Answer :=
  let v := builtVisit w.toRecords printer account w.now w.rlu.idleTimeout
  if v.menu.isEmpty then
    (closeVisit printer .taken w, answer .noJobs
      [u16 account, u32 ((jobList w.toRecords account).filter (isHeld w.toRecords)).length,
        u32 ((jobList w.toRecords account).filter (waitsForSupply w.toRecords printer)).length])
  else match w.adir.accounts.lookup account with
  | none => w.refuse .noRecord
  | some a =>
    ((w.setVisit printer (.opened v)).setAccount account { a with openVisit := some printer }).ok
      [u16 account, s32 a.available, flag a.warned, listField (menuEntry w.toRecords) v.menu, u8 v.more, u8 v.cursor,
        deadlineField v.idle]

/-- BADGE_PRESENTED (R59, R60, R61); from step 2 on a refusal carries the account. -/
def handleBadgePresented (printer code : Nat) (w : Work) : Work × Answer :=
  match w.adir.badges.find? (fun b => b.code == code) with
  | none => w.refuse .noRecord
  | some b =>
    match w.adir.accounts.lookup b.account with
    | none => w.refuse .noRecord
    | some a =>
      match a.state with
      | .suspended => (w, answer .state [u16 b.account])
      | .retiring _ => (w, answer .retiring [u16 b.account])
      | .active =>
        match badgePrinterRefusal? w.toRecords printer with
        | some (o, rest) => (w, answer o (u16 b.account :: rest))
        | none =>
          if draining w.toRecords printer then (w, answer .busy [u16 b.account])
          else if (a.openVisit.map (draining w.toRecords)).getD false then (w, answer .busy [u16 b.account])
          else buildMenu printer b.account (clearTheWay printer b.account w)

def execBadgePresented (tag : Tag) (printer code : Nat) (s : State) : Host.Outcome State Fault Refusal :=
  .next (takeRequest (.badgePresented tag printer code) 0x30 tag (handleBadgePresented printer code) s)

/-! ### Terminal keys (R64 to R66, R68, R69) -/

/-- The fields every reply to a key at an OPEN visit carries: visit state, menu, cursor, more count and idle deadline as they
stand after the key (R64). Visit states number IDLE 0, OPEN 1, DRAINING 2. -/
def visitFields (r : Records) (printer : Nat) : List Field :=
  match r.rlu.visits.lookup printer with
  | none => [u8 0, .absent, .absent, .absent, .absent]
  | some (.opened v) =>
    [u8 1, listField (fun n => [u16 n]) v.menu, u8 v.cursor, u8 v.more, deadlineField v.idle]
  | some (.draining _) => [u8 2, .absent, .absent, .absent, .absent]

/-- The idle deadline of an OPEN visit is refreshed (R64). -/
def refreshIdle (printer : Nat) (w : Work) : Work :=
  match w.rlu.visits.lookup printer with
  | some (.opened v) => w.setVisit printer (.opened { v with idle := arm w.now w.rlu.idleTimeout })
  | _ => w

/-- The reply to a key taken at an OPEN visit: the idle deadline is refreshed where the visit is still OPEN, and the reply
carries the visit before the key's own fields (R64). -/
def keyReply (printer : Nat) (o : ReplyOutcome) (rest : List Field) (w : Work) : Work × Answer :=
  let w1 := refreshIdle printer w
  (w1, answer o (visitFields w1.toRecords printer ++ rest))

/-- The checks of a key (R64): the printer, its context, and BUSY at a drain. -/
def onVisit (printer : Nat) (opened : OpenVisit → Work × Answer) (w : Work) : Work × Answer :=
  if Config.printers ≤ printer then w.refuse .range
  else match w.ptb.printers.lookup printer with
  | none => w.refuse .noRecord
  | some _ =>
    match w.rlu.visits.lookup printer with
    | none => w.refuse .state
    | some (.draining _) => w.refuse .busy
    | some (.opened v) => opened v

/-- The cursor after NEXT (R65). -/
def nextCursor (v : OpenVisit) : Nat := if v.cursor + 1 < v.menu.length then v.cursor + 1 else 0

/-- The cursor after PREVIOUS (R65). -/
def previousCursor (v : OpenVisit) : Nat := if v.cursor = 0 then v.menu.length - 1 else v.cursor - 1

/-- NEXT (R65). -/
def handleNext (printer : Nat) (w : Work) : Work × Answer :=
  onVisit printer (fun v => keyReply printer .ok [] (w.setVisit printer (.opened { v with cursor := nextCursor v }))) w

def execNext (tag : Tag) (printer : Nat) (s : State) : Host.Outcome State Fault Refusal :=
  .next (takeRequest (.next tag printer) 0x31 tag (handleNext printer) s)

/-- PREVIOUS (R65). -/
def handlePrevious (printer : Nat) (w : Work) : Work × Answer :=
  onVisit printer (fun v => keyReply printer .ok [] (w.setVisit printer (.opened { v with cursor := previousCursor v }))) w

def execPrevious (tag : Tag) (printer : Nat) (s : State) : Host.Outcome State Fault Refusal :=
  .next (takeRequest (.previous tag printer) 0x31 tag (handlePrevious printer) s)

/-- A reservation for a job: the parts where it succeeds, or the charge and the shortfall (R21). -/
inductive Reservation
  | parts (account pool : Nat)
  | short (charge : Nat) (shortfall : Int)
deriving DecidableEq, Repr

/-- QTU is asked for a reservation (R21). -/
def askReservation (r : Records) (j : Job) : Reservation :=
  let c := charge r.qtu j.mono j.colour j.size
  match r.adir.accounts.lookup j.owner with
  | none => .short c c
  | some a =>
    let account := accountPart a c
    if poolCovers r a (c - account) then .parts account (c - account) else .short c (shortfall r a (c - account))

/-- A job is reserved and granted, and leaves an OPEN menu that holds it (R66, R67). -/
def grantSelected (printer n : Nat) (j : Job) (account pool : Nat) (v : OpenVisit) (w : Work) : Work :=
  let w1 := grantJob printer n j account pool (reserve j.owner account pool w)
  w1.setVisit printer (.opened (leaveMenu w1.toRecords printer n v))

/-- The grant SELECT's reply carries: job, grant number, printer, the two parts and the grant-window deadline (R66). -/
def grantFields (r : Records) (printer n account pool : Nat) : List Field :=
  [u16 n, u32 r.rlu.lastGrant, u8 printer, u32 account, u32 pool, opt deadlineField (window? r printer n)]

/-- SELECT's checks on the job at the cursor, in their order, and the grant (R66). -/
def selectJob (printer n : Nat) (j : Job) (v : OpenVisit) (w : Work) : Work × Answer :=
  match failure? w.toRecords printer j with
  | some f =>
    keyReply printer f.outcome [] (w.setVisit printer (.opened (leaveMenu w.toRecords printer n v)))
  | none =>
    if !inService w.toRecords printer then keyReply printer .service [] w
    else if Config.inFlight ≤ (inFlightList w.toRecords printer).length then keyReply printer .busy [] w
    else match askReservation w.toRecords j with
    | .short c missing => keyReply printer .quota [u32 c, s32 missing] w
    | .parts account pool =>
      let w1 := grantSelected printer n j account pool v w
      keyReply printer .ok (grantFields w1.toRecords printer n account pool) w1

/-- SELECT (R66). -/
def handleSelect (printer : Nat) (w : Work) : Work × Answer :=
  onVisit printer (fun v =>
    match v.menu[v.cursor]? with
    | none => keyReply printer .noJobs [] w
    | some n =>
      match w.hq.jobs.lookup n with
      | none => keyReply printer .noJobs [] w
      | some j => selectJob printer n j v w) w

def execSelect (tag : Tag) (printer : Nat) (s : State) : Host.Outcome State Fault Refusal :=
  .next (takeRequest (.select tag printer) 0x31 tag (handleSelect printer) s)

/-- SELECT_ALL (R69): the context becomes DRAINING with the snapshot. -/
def handleSelectAll (printer : Nat) (w : Work) : Work × Answer :=
  onVisit printer (fun v =>
    let snapshot := (eligibleJobs w.toRecords printer v.account).take Config.drainSize
    if !inService w.toRecords printer then keyReply printer .service [] w
    else if snapshot.isEmpty then keyReply printer .noJobs [] w
    else
      keyReply printer .ok [listField (fun n => [u16 n]) snapshot]
        (w.setVisit printer (.draining { account := v.account, jobs := snapshot, granted := 0, dropped := 0 }))) w

def execSelectAll (tag : Tag) (printer : Nat) (s : State) : Host.Outcome State Fault Refusal :=
  .next (takeRequest (.selectAll tag printer) 0x31 tag (handleSelectAll printer) s)

/-- DELETE (R65): the job at the cursor is cancelled as by R46. -/
def handleDelete (printer : Nat) (w : Work) : Work × Answer :=
  onVisit printer (fun v =>
    match v.menu[v.cursor]? with
    | none => keyReply printer .noJobs [] w
    | some n =>
      let r := cancelJob n v.account w
      keyReply printer r.2.outcome (if r.2.outcome = .ok then [u16 n] else []) r.1) w

def execDelete (tag : Tag) (printer : Nat) (s : State) : Host.Outcome State Fault Refusal :=
  .next (takeRequest (.delete tag printer) 0x31 tag (handleDelete printer) s)

/-- DONE (R68, R71): closes an OPEN or DRAINING visit; at a drain the reply carries its counts. -/
def handleDone (printer : Nat) (w : Work) : Work × Answer :=
  if Config.printers ≤ printer then w.refuse .range
  else match w.ptb.printers.lookup printer with
  | none => w.refuse .noRecord
  | some _ =>
    match w.rlu.visits.lookup printer with
    | none => w.refuse .state
    | some (.draining d) => (closeVisit printer .done w).ok [u8 d.granted, u8 d.dropped]
    | some (.opened _) => keyReply printer .ok [] (closeVisit printer .done w)

def execDone (tag : Tag) (printer : Nat) (s : State) : Host.Outcome State Fault Refusal :=
  .next (takeRequest (.done tag printer) 0x31 tag (handleDone printer) s)

/-! ### Drains and the idle deadline (R68, R70) -/

/-- GRANT for a job just granted (R70). The declared sides are two fields, mono and colour, and the reservation's two parts are two
fields (log 17). -/
def raiseGrant (printer n : Nat) (j : Job) (account pool : Nat) (w : Work) : Work :=
  w.raise .grant n
    [u16 n, u16 j.owner, u8 printer, u32 w.rlu.lastGrant, u16 j.mono, u16 j.colour, u8 j.size.code, flag j.duplex,
      u32 account, u32 pool, opt deadlineField (window? w.toRecords printer n)]

/-- The drain after its head has been taken; an empty drain list ends the drain (R70, R71). -/
def leaveDrain (printer : Nat) (d : DrainVisit) (w : Work) : Work :=
  let w1 := w.setVisit printer (.draining d)
  if d.jobs.isEmpty then closeVisit printer .drained w1 else w1

/-- The head of a drain list is checked, and granted or dropped (R70). -/
def drainHead (printer n : Nat) (rest : List Nat) (d : DrainVisit) (w : Work) : Work :=
  let dropped := leaveDrain printer { d with jobs := rest, dropped := d.dropped + 1 }
  match w.hq.jobs.lookup n with
  | none => dropped w
  | some j =>
    if failure? w.toRecords printer j ≠ none then dropped w
    else match askReservation w.toRecords j with
    | .short _ _ => dropped w
    | .parts account pool =>
      leaveDrain printer { d with jobs := rest, granted := d.granted + 1 }
        (raiseGrant printer n j account pool (grantJob printer n j account pool (reserve j.owner account pool w)))

/-- A drain grant, where the drain's conditions on the records hold (R70). -/
def drainGrants (printer : Nat) (w : Work) : Work :=
  match w.rlu.visits.lookup printer with
  | some (.draining d) =>
    match d.jobs with
    | [] => w
    | n :: rest =>
      if inService w.toRecords printer ∧ (inFlightList w.toRecords printer).length < Config.inFlight then
        drainHead printer n rest d w
      else w
  | _ => w

/-- A drain grant is made while the notice queue has room for a GRANT notice (R70). -/
def execDrainGrant (printer : Nat) (s : State) : Host.Outcome State Fault Refusal :=
  .next (if s.lnk.grantRoom then takeEvent (drainGrants printer) s else s)

/-- The idle deadline of an OPEN visit falls due: TIMEOUT (R68). -/
def idleFalls (printer : Nat) (w : Work) : Work :=
  match w.rlu.visits.lookup printer with
  | some (.opened v) => if v.idle.reached w.now then closeVisit printer .timeout w else w
  | _ => w

def execIdleDeadline (printer : Nat) (s : State) : Host.Outcome State Fault Refusal := .next (takeEvent (idleFalls printer) s)

/-! ### Reports of the spool (R73 to R75) -/

/-- The checks of a report: its numbers, a live job, and the grant number quoted, whose MISMATCH carries the job's state
(R73). -/
def onGrant (n number : Nat) (f : Job → Grant → Work × Answer) (w : Work) : Work × Answer :=
  if n = 0 ∨ Config.maxJob < n ∨ number = 0 then w.refuse .range
  else match w.hq.jobs.lookup n with
  | none => w.refuse .noRecord
  | some j =>
    match j.stage.grant? with
    | none => (w, answer .mismatch [u8 j.stage.code])
    | some g => if g.number ≠ number then (w, answer .mismatch [u8 j.stage.code]) else f j g

/-- A job's window in its printer's in-flight list is replaced (R74). -/
def setWindow (printer n : Nat) (d : Deadline) (w : Work) : Work :=
  w.setInFlight printer
    ((inFlightList w.toRecords printer).map (fun e => if e.job = n then { e with window := d } else e))

/-- SPOOL_ACCEPTED (R74): a PRINTING job refuses with STATE and its accepted uptime. -/
def handleSpoolAccepted (n number : Nat) (w : Work) : Work × Answer :=
  onGrant n number (fun j g =>
    match j.stage with
    | .printing _ accepted => (w, answer .state [u32 accepted])
    | _ =>
      let d := arm w.now w.rlu.completionWindow
      (setWindow g.printer n d (w.setJob n { j with stage := .printing g w.now })).ok [deadlineField d]) w

def execSpoolAccepted (tag : Tag) (n number : Nat) (s : State) : Host.Outcome State Fault Refusal :=
  .next (takeRequest (.spoolAccepted tag n number) 0x32 tag (handleSpoolAccepted n number) s)

/-- A failed release (R75), with the retirements it lets complete (R72), the owner's before the printer's (log 11). -/
def failRelease (n : Nat) (j : Job) (g : Grant) (w : Work) : Work :=
  completePrinter g.printer (completeAccount j.owner (endRelease true none w n))

/-- SPOOL_FAILED (R75): the reply carries the attempts and the job's state after the return, or its removal reason. It is laid out
as three items, the attempts in either case, the state and the reason; of the last two the one that does not apply is absent
(log 17). -/
def handleSpoolFailed (n number : Nat) (w : Work) : Work × Answer :=
  onGrant n number (fun j g =>
    match j.stage with
    | .printing _ _ => w.refuse .state
    | _ =>
      let reason := returnReason w.toRecords true { j with stage := .held, attempts := j.attempts + 1 }
      (failRelease n j g w).ok
        [u8 (j.attempts + 1), if reason.isNone then u8 0 else .absent, opt (fun r => u8 r.code) reason]) w

def execSpoolFailed (tag : Tag) (n number : Nat) (s : State) : Host.Outcome State Fault Refusal :=
  .next (takeRequest (.spoolFailed tag n number) 0x33 tag (handleSpoolFailed n number) s)

/-! ### Settlement (R76, R77) -/

/-- The basis of a settlement (R76, R77). -/
inductive Basis
  | reported | byDefault
deriving DecidableEq, Repr

/-- The number of a basis. No one rule lists the two: REPORTED 0, as R76 names it, and then DEFAULT 1, as R77 does, is the model's
choice (log 17). -/
def Basis.code : Basis → Nat
  | .reported => 0
  | .byDefault => 1

/-- What a settlement prices and consumes. -/
structure Priced where
  basis : Basis
  mono : Nat
  colour : Nat
  coverage : Coverage
deriving DecidableEq, Repr

/-- JOB_SETTLED (R76 step 5). The sides priced are two fields, mono and colour, and the settled account part and pool part two
fields (log 17). -/
def raiseSettled (n : Nat) (j : Job) (g : Grant) (p : Priced) (a : Nat) (w : Work) : Work :=
  let parts := settledParts g a
  w.raise .jobSettled n
    [u16 n, u16 j.owner, u8 g.printer, u32 g.number, u8 p.basis.code, u16 p.mono, u16 p.colour, u32 a, u32 parts.1, u32 parts.2]

/-- A settlement, in the order of R76: QTU's posting, SPU's consumption, the in-flight entry, JOB_SETTLED, the record, and the
retirements that then complete, the owner's before the printer's (log 11). -/
def settleJob (n : Nat) (j : Job) (g : Grant) (p : Priced) (w : Work) : Work :=
  let a := charge w.qtu p.mono p.colour j.size
  let w1 := postSettlement j.owner g a w
  let w2 := endHandling (applyConsumption g.printer j.size p.mono p.colour p.coverage w1)
  let w3 := raiseSettled n j g p a (leaveFlight g.printer n j.owner w2)
  completePrinter g.printer (completeAccount j.owner (leaveQueue n j.owner w3))

/-- What a PAGES_DONE prices (R76). -/
def reportedPages (f : PagesDone) : Priced :=
  { basis := .reported, mono := f.mono, colour := f.colour, coverage := { k := f.sumK, c := f.sumC, m := f.sumM, y := f.sumY } }

/-- What a default settlement prices (R77, R109). -/
def declaredPages (j : Job) : Priced :=
  { basis := .byDefault, mono := j.mono, colour := j.colour, coverage := ratedCoverage j.mono j.colour }

/-- PAGES_DONE (R76). -/
def handlePagesDone (f : PagesDone) (w : Work) : Work × Answer :=
  onGrant f.job f.grant (fun j g =>
    let a := charge w.qtu f.mono f.colour j.size
    (settleJob f.job j g (reportedPages f) w).ok [u32 a, u32 (settledParts g a).1, u32 (settledParts g a).2]) w

def execPagesDone (tag : Tag) (f : PagesDone) (s : State) : Host.Outcome State Fault Refusal :=
  .next (takeRequest (.pagesDone tag f) 0x34 tag (handlePagesDone f) s)

/-- The grant window of a RELEASING job falls due: the release has failed (R75). -/
def grantWindowFalls (n : Nat) (w : Work) : Work :=
  match w.hq.jobs.lookup n with
  | none => w
  | some j =>
    match j.stage with
    | .releasing g => if reached? (window? w.toRecords g.printer n) w.now then failRelease n j g w else w
    | _ => w

def execGrantWindow (n : Nat) (s : State) : Host.Outcome State Fault Refusal := .next (takeEvent (grantWindowFalls n) s)

/-- The completion window of a PRINTING job falls due: it is settled by default (R77). -/
def completionWindowFalls (n : Nat) (w : Work) : Work :=
  match w.hq.jobs.lookup n with
  | none => w
  | some j =>
    match j.stage with
    | .printing g _ => if reached? (window? w.toRecords g.printer n) w.now then settleJob n j g (declaredPages j) w else w
    | _ => w

def execCompletionWindow (n : Nat) (s : State) : Host.Outcome State Fault Refusal :=
  .next (takeEvent (completionWindowFalls n) s)

/-! ### Reads and settings (R80, R81) -/

/-- An entry of the in-flight list in VISIT_READ: job, owner, grant number, state and window deadline (R81). -/
def inFlightEntry (r : Records) (e : InFlight) : List Field :=
  match r.hq.jobs.lookup e.job with
  | none => []
  | some j => [u16 e.job, u16 j.owner, u32 ((j.stage.grant?.map (·.number)).getD 0), u8 j.stage.code, deadlineField e.window]

/-- The visit in VISIT_READ; a field that the visit's state does not have is absent (R81). -/
def visitReadFields (r : Records) (printer : Nat) : List Field :=
  match r.rlu.visits.lookup printer with
  | none => [u8 0, .absent, .absent, .absent, .absent, .absent, .absent, .absent, .absent]
  | some (.opened v) =>
    [u8 1, u16 v.account, listField (fun n => [u16 n]) v.menu, u8 v.cursor, u8 v.more, deadlineField v.idle, .absent, .absent,
      .absent]
  | some (.draining d) =>
    [u8 2, u16 d.account, .absent, .absent, .absent, .absent, listField (fun n => [u16 n]) d.jobs, u8 d.granted, u8 d.dropped]

/-- VISIT_READ (R81). -/
def answerVisitRead (printer : Nat) (r : Records) : Answer :=
  if Config.printers ≤ printer then refuse .range
  else match r.ptb.printers.lookup printer with
  | none => refuse .noRecord
  | some _ => answer .ok (visitReadFields r printer ++ [listField (inFlightEntry r) (inFlightList r printer)])

def execVisitRead (tag : Tag) (printer : Nat) (s : State) : Host.Outcome State Fault Refusal :=
  .next (takeRequest (.visitRead tag printer) 0x35 tag (reads (answerVisitRead printer)) s)

/-- The release settings a RELEASE_CONFIG leaves (R80). -/
def setRelease (f : ReleaseConfig) (r : Rlu) : Rlu :=
  { r with
    idleTimeout := selected 10 300 r.idleTimeout f.idleTimeout
    grantWindow := selected 30 900 r.grantWindow f.grantWindow
    completionWindow := selected 300 86400 r.completionWindow f.completionWindow
    maxAttempts := selected 1 5 r.maxAttempts f.maxAttempts }

/-- RELEASE_CONFIG (R80). -/
def handleReleaseConfig (f : ReleaseConfig) (w : Work) : Work × Answer :=
  let r := setRelease f w.rlu
  Work.ok { w with rlu := r }
    [u16 r.idleTimeout, u16 r.grantWindow, u32 r.completionWindow, u8 r.maxAttempts, u32 r.lastGrant]

def execReleaseConfig (tag : Tag) (f : ReleaseConfig) (s : State) : Host.Outcome State Fault Refusal :=
  .next (takeRequest (.releaseConfig tag f) 0x36 tag (handleReleaseConfig f) s)

end Sys2Proof.Machine
end

