-- ==== Sys2Proof/Machine/Toner.lean ====
section
/-! DEFINITION. SPU's requests on slots (06): CARTRIDGE_READ and SUPPLY_CONFIG. -/

namespace Sys2Proof.Machine

/-- A slot letter is within a printer's slot count (R107). -/
def slotInCount (p : Printer) (l : SlotLetter) : Bool := decide (l = .k) || decide (p.slotCount = 4)

/-- The reservation list of a slot's type holds the slot. -/
def holdsUnit (r : Records) (key : Nat) : Bool :=
  match slotType? r key with
  | none => false
  | some (_, t) => t.reservations.contains key

/-- The fields of a fitted slot in the order of R107's table. -/
def slotFields (s : Slot) : List Field :=
  [flag true, u8 s.supplyType, u32 s.capacity, u32 s.remaining, u32 s.today, u32 s.average, flag s.seeded, u8 s.level,
    u16 s.projected, u8 s.state.code, flag s.corrected, u32 s.sides]

/-- The two thresholds of the slot's type: its low %, and its lead days plus safety days, a sum whose range no rule states (R116,
R119, R187). -/
def thresholdFields (r : Records) (s : Slot) : List Field :=
  match r.spu.types.lookup s.supplyType with
  | none => [.absent, .absent]
  | some t => [u8 t.lowPercent, u32 (t.leadDays + t.safetyDays)]

/-- CARTRIDGE_READ (R119). -/
def answerCartridgeRead (i letter : Nat) (r : Records) : Answer :=
  match slotLetter? letter with
  | none => refuse .range
  | some l =>
    if Config.printers ≤ i then refuse .range
    else match r.ptb.printers.lookup i with
    | none => refuse .noRecord
    | some p =>
      if !slotInCount p l then refuse .range
      else match r.spu.slots.lookup (slotKey i l) with
      | none => answer .ok [flag false]
      | some s => answer .ok (slotFields s ++ thresholdFields r s ++ [flag (holdsUnit r (slotKey i l))])

def execCartridgeRead (tag : Tag) (i letter : Nat) (s : State) : Host.Outcome State Fault Refusal :=
  .next (takeRequest (.cartridgeRead tag i letter) 0x56 tag (reads (answerCartridgeRead i letter)) s)

/-- SUPPLY_CONFIG (R120). -/
def handleSupplyConfig (shift : Option Nat) (w : Work) : Work × Answer :=
  let w1 : Work := { w with spu := { w.spu with shift := selected 1 4 w.spu.shift shift } }
  w1.ok [u8 w1.spu.shift]

def execSupplyConfig (tag : Tag) (shift : Option Nat) (s : State) : Host.Outcome State Fault Refusal :=
  .next (takeRequest (.supplyConfig tag shift) 0x53 tag (handleSupplyConfig shift) s)

end Sys2Proof.Machine
end

