-- ==== Sys2Proof/Machine/Supply.lean ====
section
/-! DEFINITION. SPU's requests on supply types and its deadline (07): definition, stock, orders, and the install of a cartridge. -/

namespace Sys2Proof.Machine

/-! ### Types (R124 to R128) -/

/-- The six settings of a type, in the order of R124. -/
def typeSettings (t : SupplyType) : List Field :=
  [u16 t.ratedYield, u8 t.lowPercent, u8 t.leadDays, u8 t.safetyDays, u8 t.reorderQuantity, u8 t.minimumStock]

/-- The settings a request selects, clamped and stored (R124, R126, R127). -/
def setTypeFields (f : SupplySettings) (t : SupplyType) : SupplyType :=
  { t with
    ratedYield := selected 1000 60000 t.ratedYield f.ratedYield
    lowPercent := selected 1 50 t.lowPercent f.lowPercent
    leadDays := selected 1 60 t.leadDays f.leadDays
    safetyDays := selected 0 30 t.safetyDays f.safetyDays
    reorderQuantity := selected 1 99 t.reorderQuantity f.reorderQuantity
    minimumStock := selected 0 99 t.minimumStock f.minimumStock }

/-- A new type with the defaults of the settings the host omits (R126). -/
def definedType (colour : SlotLetter) (modelGroup : Nat) : SupplyType where
  state := .active
  colour := colour
  modelGroup := modelGroup
  ratedYield := 10000
  lowPercent := 15
  leadDays := 7
  safetyDays := 3
  reorderQuantity := 4
  minimumStock := 1
  onHand := 0
  reservations := []
  onOrder := 0
  overdue := none
  overdueRaised := false

/-- Position, need and order state of a type, as replies carry them. -/
def orderNumbers (r : Records) (i : Nat) (t : SupplyType) : List Field :=
  [s32 t.position, u32 (need r i t), u8 (orderState r i t).code]

/-- SUPPLY_DEFINE (R126). -/
def handleSupplyDefine (i colour modelGroup : Nat) (f : SupplySettings) (w : Work) : Work × Answer :=
  if Config.types ≤ i then w.refuse .range
  else match w.spu.types.lookup i with
  | some t => w.refuse (match t.state with
      | .active => .duplicate
      | .retiring => .retiring)
  | none =>
    match slotLetter? colour with
    | none => w.refuse .range
    | some letter =>
      if 16 ≤ modelGroup then w.refuse .range
      else
        let t := setTypeFields f (definedType letter modelGroup)
        let w1 := orderPoint (w.setType i t)
        w1.ok (typeSettings t ++ [u8 (orderState w1.toRecords i t).code])

def execSupplyDefine (tag : Tag) (i colour modelGroup : Nat) (f : SupplySettings) (s : State) :
    Host.Outcome State Fault Refusal :=
  .next (takeRequest (.supplyDefine tag i colour modelGroup f) 0x50 tag (handleSupplyDefine i colour modelGroup f) s)

/-- A request that names a type is checked first: its index, FREE, RETIRING (R125). -/
def typeRefusal? (r : Records) (i : Nat) : Option ReplyOutcome :=
  if Config.types ≤ i then some .range
  else match r.spu.types.lookup i with
  | none => some .noRecord
  | some t => if t.state = .retiring then some .retiring else none

/-- A request on an ACTIVE type, once the checks of R125 have passed. -/
def onType (i : Nat) (f : SupplyType → Work × Answer) (w : Work) : Work × Answer :=
  match typeRefusal? w.toRecords i with
  | some o => w.refuse o
  | none =>
    match w.spu.types.lookup i with
    | none => w.refuse .noRecord
    | some t => f t

/-- SUPPLY_SET (R127). -/
def handleSupplySet (i : Nat) (f : SupplySettings) (w : Work) : Work × Answer :=
  onType i (fun t =>
    let t' := setTypeFields f t
    let w1 := orderPoint (w.setType i t')
    w1.ok (typeSettings t' ++ orderNumbers w1.toRecords i t')) w

def execSupplySet (tag : Tag) (i : Nat) (f : SupplySettings) (s : State) : Host.Outcome State Fault Refusal :=
  .next (takeRequest (.supplySet tag i f) 0x51 tag (handleSupplySet i f) s)

/-- An entry of the reservation list: printer, slot letter, and the number of the ticket that holds the unit (R128). -/
def reservationEntry (r : Records) (key : Nat) : List Field :=
  [u8 (key / 4), u8 (key % 4), u32 (match ticketOfSlot? r key with
    | none => 0
    | some t => t.number)]

/-- The fitted slots of a type in some level states. -/
def slotsOf (r : Records) (i : Nat) (p : LevelState → Bool) : Nat :=
  (r.spu.slots.filter (fun e => e.2.supplyType == i && p e.2.state)).length

/-- The SUPPLY tickets of a type that wait for stock (R128). -/
def waitingOf (r : Records) (i : Nat) : Nat :=
  (r.cou.tickets.filter (fun t => decide (t.state = .waitingStock)
    && decide (t.key?.bind (fittedType? r) = some i))).length

/-- SUPPLY_READ (R128): the stored fields of R124 in its order, the reservation list among them, then what is derived. -/
def answerSupplyRead (i : Nat) (r : Records) : Answer :=
  if Config.types ≤ i then refuse .range
  else match r.spu.types.lookup i with
  | none => refuse .noRecord
  | some t => answer .ok
      ([u8 t.state.code, u8 t.colour.code, u8 t.modelGroup] ++ typeSettings t ++
        [u16 t.onHand, u16 t.reserved, listField (reservationEntry r) t.reservations, u16 t.onOrder,
          opt deadlineField t.overdue, flag t.overdueRaised, u16 (demand r i t)] ++ orderNumbers r i t ++
        [u32 (slotsOf r i (fun _ => true)), u32 (slotsOf r i (fun l => decide (l = .low))),
          u32 (slotsOf r i (fun l => decide (l = .empty))), u32 (waitingOf r i)])

def execSupplyRead (tag : Tag) (i : Nat) (s : State) : Host.Outcome State Fault Refusal :=
  .next (takeRequest (.supplyRead tag i) 0x52 tag (reads (answerSupplyRead i)) s)

/-! ### Orders, deliveries and counts (R134 to R137) -/

/-- A quantity of 1 to 999 (R134, R136). -/
def quantityInRange (q : Nat) : Bool := decide (1 ≤ q) && decide (q ≤ Config.maxStock)

/-- A type after an order (R134 steps 1 to 3). -/
def orderedType (now quantity : Nat) (t : SupplyType) : SupplyType :=
  { t with
    onOrder := min Config.maxStock (t.onOrder + quantity)
    overdue := some (arm now ((t.leadDays + 2) * Config.daySeconds))
    overdueRaised := false }

/-- ORDER_PLACED (R134). -/
def handleOrderPlaced (i quantity : Nat) (w : Work) : Work × Answer :=
  onType i (fun t =>
    if !quantityInRange quantity then w.refuse .range
    else
      let t' := orderedType w.now quantity t
      let w1 := orderPoint (w.setType i t')
      w1.ok ([u32 (t'.onOrder - t.onOrder), u16 t'.onOrder, opt deadlineField t'.overdue] ++ orderNumbers w1.toRecords i t')) w

def execOrderPlaced (tag : Tag) (i quantity : Nat) (s : State) : Host.Outcome State Fault Refusal :=
  .next (takeRequest (.orderPlaced tag i quantity) 0x57 tag (handleOrderPlaced i quantity) s)

/-- A type after a delivery (R136 steps 1 and 2). -/
def deliveredType (quantity : Nat) (t : SupplyType) : SupplyType :=
  { t with
    onHand := min Config.maxStock (t.onHand + quantity)
    onOrder := t.onOrder - quantity
    overdue := if t.onOrder ≤ quantity then none else t.overdue
    overdueRaised := if t.onOrder ≤ quantity then false else t.overdueRaised }

/-- A type's record after a handling. -/
def typeAfter (r : Records) (i : Nat) (t : SupplyType) : SupplyType := (r.spu.types.lookup i).getD t

/-- DELIVERY_RECEIVED (R136). -/
def handleDeliveryReceived (i quantity : Nat) (w : Work) : Work × Answer :=
  onType i (fun t =>
    if !quantityInRange quantity then w.refuse .range
    else
      let t' := deliveredType quantity t
      let w1 := w.setType i t'
      let w2 := endHandling w1
      let t2 := typeAfter w2.toRecords i t'
      w2.ok ([u32 (t'.onHand - t.onHand), u16 t2.onHand, u16 t2.reserved, u16 t2.onOrder,
        u32 (waitingTickets w1.toRecords - waitingTickets w2.toRecords)] ++ orderNumbers w2.toRecords i t2)) w

def execDeliveryReceived (tag : Tag) (i quantity : Nat) (s : State) : Host.Outcome State Fault Refusal :=
  .next (takeRequest (.deliveryReceived tag i quantity) 0x58 tag (handleDeliveryReceived i quantity) s)

/-- STOCK_ADJUST (R137). -/
def handleStockAdjust (i count : Nat) (w : Work) : Work × Answer :=
  onType i (fun t =>
    if Config.maxStock < count then w.refuse .range
    else
      let w1 := withdrawUnits i (t.reserved - count) (w.setType i { t with onHand := count })
      let w2 := endHandling w1
      let t2 := typeAfter w2.toRecords i t
      w2.ok ([u16 t.onHand, u16 t2.onHand, u32 (t.reserved - count),
        u32 (waitingTickets w1.toRecords - waitingTickets w2.toRecords)] ++ orderNumbers w2.toRecords i t2)) w

def execStockAdjust (tag : Tag) (i count : Nat) (s : State) : Host.Outcome State Fault Refusal :=
  .next (takeRequest (.stockAdjust tag i count) 0x59 tag (handleStockAdjust i count) s)

/-- A type's overdue deadline falls due (R135). -/
def overdueFalls (i : Nat) (w : Work) : Work :=
  match w.spu.types.lookup i with
  | none => w
  | some t =>
    match t.overdue with
    | none => w
    | some d =>
      if d.reached w.now then
        if 0 < t.onOrder then
          (w.setType i { t with overdue := none, overdueRaised := true }).raise .orderOverdue i
            [u8 i, u16 t.onOrder, deadlineField d, u8 (orderState w.toRecords i t).code]
        else w.setType i { t with overdue := none }
      else w

def execOverdueDeadline (i : Nat) (s : State) : Host.Outcome State Fault Refusal := .next (takeEvent (overdueFalls i) s)

/-! ### Installing a cartridge (R138 to R140) -/

/-- Where an install takes its unit from (R140). -/
inductive UnitSource
  | reserved | stock | none
deriving DecidableEq, Repr

def UnitSource.code : UnitSource → Nat
  | .reserved => 0
  | .stock => 1
  | .none => 2

/-- What an install's unit came from, the slot whose reservation was withdrawn, and whether a unit was given back. -/
structure Drawn where
  source : UnitSource
  withdrawn : Option Nat
  gaveBack : Bool
deriving DecidableEq, Repr

/-- The installed type gives a unit from its stock; a shelf that is now short withdraws the newest reservation (R139). -/
def drawStock (i : Nat) (t : SupplyType) (gaveBack : Bool) (w : Work) : Work × Drawn :=
  let w1 := w.setType i { t with onHand := t.onHand - 1 }
  let short := t.reserved - (t.onHand - 1)
  (withdrawUnits i short w1,
    { source := if t.onHand = 0 then .none else .stock
      withdrawn := if 0 < short then t.reservations.getLast? else Option.none
      gaveBack })

/-- An install takes its unit from stock (R139): the unit its own ticket holds, or, a unit of another type given back first, one
from the shelf. -/
def drawUnit (key i : Nat) (t : SupplyType) (w : Work) : Work × Drawn :=
  match ticketOfSlot? w.toRecords key with
  | some ticket =>
    if !ticket.holdsUnit then drawStock i t false w
    else if fittedType? w.toRecords key = some i then
      (w.setType i { t with onHand := t.onHand - 1, reservations := t.reservations.erase key },
        { source := .reserved, withdrawn := Option.none, gaveBack := false })
    else drawStock i t true (giveBackUnit key w)
  | none => drawStock i t false w

/-- The slot as an install leaves it (R140 step 1): the average and its seeding are carried from a fitted slot (R115). -/
def installedSlot (i : Nat) (t : SupplyType) (old : Option Slot) : Slot :=
  let average := (old.map (·.average)).getD 0
  { supplyType := i
    capacity := t.ratedYield * 2000
    remaining := t.ratedYield * 2000
    today := 0
    average
    seeded := (old.map (·.seeded)).getD false
    level := 100
    projected := projectedDays (t.ratedYield * 2000) average
    state := .ok
    corrected := false
    sides := 0 }

/-- COU is told of the new cartridge: the slot's ticket is resolved with reason INSTALLED, or its owed cause dropped (R140,
R149, R151). -/
def tellInstalled (key : Nat) (gaveBack : Bool) (w : Work) : Work :=
  match ticketOfSlot? w.toRecords key with
  | some ticket => removeTicket ticket .installed gaveBack w
  | none => dropOwed (fun o => decide (o.kind.slot?.map (slotKey o.printer) = some key)) w

/-- SLOT_LEVEL of an install: raised where the slot was unfitted, or LOW or EMPTY (R140 step 4). -/
def announceInstall (printer : Nat) (letter : SlotLetter) (old : Option Slot) (w : Work) : Work :=
  match old with
  | some s => if s.state = .ok then w else raiseSlotLevel printer letter (some s.state) .install w
  | none => raiseSlotLevel printer letter none .install w

/-- An accepted install (R139, R140), one handling: SLOT_LEVEL stands before the notices of the handling's end (log 15). -/
def install (printer : Nat) (letter : SlotLetter) (i : Nat) (t : SupplyType) (w : Work) : Work × Answer :=
  let key := slotKey printer letter
  let old := w.spu.slots.lookup key
  let ticket := ticketOfSlot? w.toRecords key
  let drawn := drawUnit key i t w
  let slot := installedSlot i t old
  let w1 := announceInstall printer letter old (tellInstalled key drawn.2.gaveBack (drawn.1.setSlot key slot))
  let w2 := endHandling w1
  let t2 := typeAfter w2.toRecords i t
  w2.ok
    [u32 slot.capacity, u32 slot.average, u8 drawn.2.source.code,
      opt (fun k => compound [u8 (k / 4), u8 (k % 4)]) drawn.2.withdrawn, opt (fun t => u32 t.number) ticket,
      u16 t2.onHand, u16 t2.reserved, u8 (orderState w2.toRecords i t2).code]

/-- CARTRIDGE_INSTALL (R138). -/
def handleCartridgeInstall (printer letter i : Nat) (w : Work) : Work × Answer :=
  match slotLetter? letter with
  | none => w.refuse .range
  | some l =>
    if Config.printers ≤ printer ∨ Config.types ≤ i then w.refuse .range
    else match w.ptb.printers.lookup printer with
    | none => w.refuse .noRecord
    | some p =>
      match p.state with
      | .retiring _ => w.refuse .retiring
      | _ =>
        if !slotInCount p l then w.refuse .range
        else onType i (fun t =>
          if t.colour ≠ l ∨ t.modelGroup ≠ p.modelGroup then w.refuse .mismatch
          else install printer l i t w) w

def execCartridgeInstall (tag : Tag) (printer letter i : Nat) (s : State) : Host.Outcome State Fault Refusal :=
  .next (takeRequest (.cartridgeInstall tag printer letter i) 0x55 tag (handleCartridgeInstall printer letter i) s)

end Sys2Proof.Machine
end

