-- ==== Sys2Proof/Machine/Retirement.lean ====
section
/-! DEFINITION. Retirement and reseating (09). -/

namespace Sys2Proof.Machine

/-! ### Accounts (R159, R160) -/

/-- The account's HELD jobs, in the order of its job list. -/
def heldJobs (r : Records) (i : Nat) : List Nat := (jobList r i).filter (isHeld r)

/-- HELD jobs are removed with reason OWNER_RETIRED (R159 step 3). -/
def removeHeld (jobs : List Nat) (w : Work) : Work := jobs.foldl (fun w n => removeJob n .ownerRetired 0 w) w

/-- An accepted ACCOUNT_RETIRE, in the order of R159. -/
def retireAccount (i : Nat) (a : Account) (w : Work) : Work × Answer :=
  let w1 := closeAccountVisit i .account (w.setAccount i { a with state := .retiring w.now })
  let jobs := heldJobs w1.toRecords i
  (completeAccount i (removeHeld jobs w1)).ok
    [u32 jobs.length, u8 a.inFlight, opt u8 a.openVisit, flag (a.inFlight == 0)]

/-- ACCOUNT_RETIRE (R159). -/
def handleAccountRetire (i : Nat) (w : Work) : Work × Answer :=
  if Config.accounts ≤ i then w.refuse .range
  else match w.adir.accounts.lookup i with
  | none => w.refuse .noRecord
  | some a =>
    match a.state with
    | .retiring _ => w.refuse .retiring
    | _ => retireAccount i a w

def execAccountRetire (tag : Tag) (i : Nat) (s : State) : Host.Outcome State Fault Refusal :=
  .next (takeRequest (.accountRetire tag i) 0x17 tag (handleAccountRetire i) s)

/-! ### Pools (R161) -/

/-- POOL_RETIRE: it enters RETIRING and at once becomes FREE (R161). -/
def handlePoolRetire (i : Nat) (w : Work) : Work × Answer :=
  if Config.pools ≤ i then w.refuse .range
  else match w.adir.pools.lookup i with
  | none => w.refuse .noRecord
  | some p =>
    if 0 < p.members then w.refuse .state
    else (retiredNotice 1 i w.now (some p.balance) none (w.dropPool i)).ok [s32 p.balance]

def execPoolRetire (tag : Tag) (i : Nat) (s : State) : Host.Outcome State Fault Refusal :=
  .next (takeRequest (.poolRetire tag i) 0x1B tag (handlePoolRetire i) s)

/-! ### Printers (R53, R121, R162) -/

/-- A job after the retirement of a printer: a target of it becomes its floor, and a rerouted-from of it becomes absent (R53). -/
def retargeted (printer floor : Nat) (j : Job) : Job :=
  { j with
    target := if j.target = .printer printer then .floor floor else j.target
    reroutedFrom := if j.reroutedFrom = some printer then none else j.reroutedFrom }

/-- HQ retargets every live job (R53). -/
def retargetJobs (printer floor : Nat) (w : Work) : Work :=
  { w with hq := { w.hq with jobs := w.hq.jobs.map (fun e => (e.1, retargeted printer floor e.2)) } }

/-- The jobs a retirement retargets. -/
def pinnedTo (r : Records) (printer : Nat) : Nat :=
  (r.hq.jobs.filter (fun e => decide (e.2.target = .printer printer))).length

/-- Every other printer that names this one as its sibling has its sibling made absent (R162 step 1). -/
def clearSiblings (printer : Nat) (w : Work) : Work :=
  { w with ptb := { w.ptb with
      printers := w.ptb.printers.map (fun e =>
        (e.1, if e.2.sibling = some printer then { e.2 with sibling := none } else e.2)) } }

/-- Every deadline of a printer is cancelled (R162, R166). -/
def cancelDeadlines (p : Printer) : Printer :=
  { p with qualification := [], heartbeat := none, absence := none, restart := none, restartCredit := none }

/-- Every slot of a printer is unfitted (R121). -/
def unfitSlots (printer : Nat) (w : Work) : Work :=
  { w with spu := { w.spu with slots := w.spu.slots.filter (fun e => e.1 / 4 != printer) } }

/-- The tickets of a printer, and its owed entries. -/
def ticketOf (printer : Nat) (t : Ticket) : Bool := t.printer == printer
def owedOf (printer : Nat) (o : OwedCause) : Bool := o.printer == printer

/-- An accepted PRINTER_RETIRE, in the order of R162. -/
def retirePrinter (i : Nat) (p : Printer) (w : Work) : Work × Answer :=
  let p' := cancelDeadlines { p with state := .retiring w.now }
  let w1 := raisePrinterState i p.state.code (clearSiblings i (w.setPrinter i p'))
  let w2 := retargetJobs i p.floor (closeVisit i .service w1)
  let w3 := resolveWhere (ticketOf i) .retired (dropOwed (owedOf i) w2)
  let w4 := completePrinter i (endHandling (unfitSlots i w3))
  let flying := (inFlightList w.toRecords i).length
  w4.ok
    [u8 p.state.code, u8 flying, u32 (pinnedTo w.toRecords i),
      u32 (w.cou.tickets.filter (ticketOf i)).length, flag (flying == 0)]

/-- PRINTER_RETIRE (R162). -/
def handlePrinterRetire (i : Nat) (w : Work) : Work × Answer :=
  if Config.printers ≤ i then w.refuse .range
  else match w.ptb.printers.lookup i with
  | none => w.refuse .noRecord
  | some p =>
    match p.state with
    | .retiring _ => w.refuse .retiring
    | _ => retirePrinter i p w

def execPrinterRetire (tag : Tag) (i : Nat) (s : State) : Host.Outcome State Fault Refusal :=
  .next (takeRequest (.printerRetire tag i) 0x48 tag (handlePrinterRetire i) s)

/-! ### Supply types (R165) -/

/-- SUPPLY_RETIRE (R165). -/
def handleSupplyRetire (i : Nat) (w : Work) : Work × Answer :=
  onType i (fun t =>
    if 0 < slotsOf w.toRecords i (fun _ => true) ∨ 0 < t.reserved ∨ 0 < t.onOrder then w.refuse .state
    else (retiredNotice 3 i w.now none (some t.onHand) (w.dropType i)).ok [u16 t.onHand]) w

def execSupplyRetire (tag : Tag) (i : Nat) (s : State) : Host.Outcome State Fault Refusal :=
  .next (takeRequest (.supplyRetire tag i) 0x54 tag (handleSupplyRetire i) s)

/-! ### Reseating (R166) -/

/-- The record a reseat leaves (R166 step 1). -/
def reseatedPrinter (p : Printer) : Printer :=
  cancelDeadlines { p with state := .absent, present := false, live := 0, latched := 0, restartUsed := false }

/-- The tickets a reseat resolves: FAULT, RESTART and ABSENCE; owed entries likewise (R166 step 3). -/
def reseatTicket (printer : Nat) (t : Ticket) : Bool := t.printer == printer && t.kind.slot?.isNone
def reseatOwed (printer : Nat) (o : OwedCause) : Bool := o.printer == printer && o.kind.slot?.isNone

/-- An accepted PRINTER_RESEAT, in the order of R166. -/
def reseat (i : Nat) (p : Printer) (w : Work) : Work × Answer :=
  let w1 := raisePrinterState i p.state.code (w.setPrinter i (reseatedPrinter p))
  let w2 := returnReleasing i none (closeVisit i .service w1)
  let w3 := endReturns (releasingOwners w.toRecords i) (resolveWhere (reseatTicket i) .reseat (dropOwed (reseatOwed i) w2))
  w3.ok [u8 p.state.code, u32 (releasingAt w.toRecords i).length, u32 (w.cou.tickets.filter (reseatTicket i)).length]

/-- PRINTER_RESEAT (R166). -/
def handlePrinterReseat (i : Nat) (w : Work) : Work × Answer :=
  if Config.printers ≤ i then w.refuse .range
  else match w.ptb.printers.lookup i with
  | none => w.refuse .noRecord
  | some p =>
    match p.state with
    | .retiring _ => w.refuse .state
    | _ => reseat i p w

def execPrinterReseat (tag : Tag) (i : Nat) (s : State) : Host.Outcome State Fault Refusal :=
  .next (takeRequest (.printerReseat tag i) 0x49 tag (handlePrinterReseat i) s)

end Sys2Proof.Machine
end

