-- ==== Sys2Proof/Machine/Starts.lean ====
section
/-! DEFINITION. Main power and standby power: the cold and the warm start (R185 and each chapter's values after each start). -/

namespace Sys2Proof.Machine

/-! ### The warm start's own work -/

/-- Every visit context becomes IDLE and every account's open visit absent, without a notice (R17, R82 step 1). -/
def clearVisits (w : Work) : Work :=
  { w with
    rlu := { w.rlu with visits := [] }
    adir := { w.adir with accounts := w.adir.accounts.map (fun e => (e.1, { e.2 with openVisit := none })) } }

/-- The accepted uptime of a PRINTING job, of that number. -/
def acceptedOf (r : Records) (n : Nat) : Option Nat := (r.hq.jobs.lookup n).bind (fun j => j.stage.accepted?)

/-- An entry is placed among entries in order of accepted uptime, after those not later than it. -/
def insertByAccepted (r : Records) (e : InFlight) : List InFlight → List InFlight
  | [] => [e]
  | f :: rest =>
    if (acceptedOf r e.job).getD 0 < (acceptedOf r f.job).getD 0 then e :: f :: rest else f :: insertByAccepted r e rest

/-- An in-flight list rebuilt: the jobs in PRINTING in order of accepted uptime (R82 step 3), before those still to be
returned. -/
def rebuiltList (r : Records) (l : List InFlight) : List InFlight :=
  (l.filter (fun e => (acceptedOf r e.job).isSome)).foldl (fun sorted e => insertByAccepted r e sorted) []
    ++ l.filter (fun e => (acceptedOf r e.job).isNone)

/-- The entries in all lists whose jobs an account owns (R72). -/
def flyingOf (r : Records) (i : Nat) : Nat :=
  ((r.rlu.inFlight.flatMap (·.2)).filter (fun e => decide (owner? r e.job = some i))).length

/-- The in-flight lists are rebuilt and the counts counted afresh (R82 step 3). -/
def rebuildFlight (w : Work) : Work :=
  let w1 : Work :=
    { w with rlu := { w.rlu with inFlight := w.rlu.inFlight.map (fun e => (e.1, rebuiltList w.toRecords e.2)) } }
  { w1 with adir := { w1.adir with
      accounts := w1.adir.accounts.map (fun e => (e.1, { e.2 with inFlight := flyingOf w1.toRecords e.1 })) } }

/-- The midnights crossed while main power was off: those from the roll deadline's to the current uptime, none past the last
wall time (R169, R175). -/
def crossed (f : Fck) : Nat :=
  match f.roll with
  | none => 0
  | some d =>
    let last := min f.uptime ((Config.maxWall : Int) - f.offset).toNat
    if d.reached f.uptime ∧ d.value ≤ last then (last - d.value) / Config.daySeconds + 1 else 0

/-- The day rolls a warm start performs, and the midnights it leaves unrolled (R175). -/
def catchUpCounts (f : Fck) : Nat × Nat := (min (crossed f) Config.maxCatchUp, crossed f - Config.maxCatchUp)

/-- The catch-up: the day rolls, and the roll deadline at the first midnight after the current wall time (R175). -/
def catchUp (w : Work) : Work := if crossed w.fck = 0 then w else armRoll (dayRolls (catchUpCounts w.fck).1 w)

/-- A deadline that passed while main power was off is taken by its rule. A grant window is dropped: its job is returned as
withdrawn (R82); an idle deadline went with its visit. -/
def takePassed : DeadlineName → Work → Work
  | .expiry n, w => expiryFalls n w
  | .idle _, w => w
  | .grantWindow _, w => w
  | .completionWindow n, w => completionWindowFalls n w
  | .qualification p c, w => qualificationFalls p c w
  | .restart p, w => restartFalls p w
  | .restartCredit p, w => restartCreditFalls p w
  | .heartbeat p, w => heartbeatFalls p w
  | .absence p, w => absenceFalls p w
  | .overdue i, w => overdueFalls i w
  | .acknowledgement n, w => escalate .dispatched n w
  | .work n, w => escalate .acknowledged n w

/-- One piece of the start's work; the catch-up is made once. -/
def takeWork (r : Work × Bool) : StartWork → Work × Bool
  | .giveBack n => (endRelease false none r.1 n, r.2)
  | .rolls => if r.2 then r else (catchUp r.1, true)
  | .deadline d => (takePassed d r.1, r.2)

/-- The jobs that are RELEASING, by rising number. -/
def releasingJobs (r : Records) : List Nat := (r.hq.jobs.filter (fun e => decide (e.2.stage.code = 1))).map (·.1)

/-- The start's work: in the order given, then the returns and the catch-up that the order left out (log 5). Deadlines past due
that it left out stay due, and are taken by later commands. -/
def startWork (order : List StartWork) (w : Work) : Work :=
  let r := order.foldl takeWork (w, false)
  let w1 := if r.2 then r.1 else catchUp r.1
  (releasingJobs w1.toRecords).foldl (endRelease false none) w1

/-- Retirements whose in-flight counts are now 0 complete (R82 step 5, R167), the accounts' before the printers' (log 11). -/
def completeRetirements (w : Work) : Work :=
  let w1 := completeAccounts w.adir.accounts.indices w
  w1.ptb.printers.indices.foldl (fun w i => completePrinter i w) w1

/-- A warm start's handling: the start's work, the retirements that complete at its end (R160, R164), its notices behind START
(R185). -/
def warmWork (order : List StartWork) (w : Work) : Work :=
  let notice := startNotice .warm w.fck.uptime w.fck.clockSet (some (catchUpCounts w.fck))
  let w1 := completeRetirements (endHandling (startWork order (rebuildFlight (clearVisits w))))
  { w1 with raised := notice :: w1.raised }

/-! ### Power (R185) -/

/-- The link as main power rises: prepared, main power on, the retention flag set. -/
def Lnk.powered (l : Lnk) (kind : StartKind) : Lnk := { l.prepare kind with mainPower := true, retention := true }

/-- A cold start: every block takes its cold-start values (R185). -/
def State.coldStart (s : State) : State :=
  State.settleLines
    { s with toRecords := Records.cold, lnk := (s.lnk.powered .cold).place (startNotice .cold 0 false none) }

/-- A warm start: every block keeps its records and does its warm-start work (R185). -/
def State.warmStart (order : List StartWork) (s : State) : State :=
  let s1 : State := { s with lnk := s.lnk.powered .warm }
  s1.commit (warmWork order s1.work)

/-- Main power rises (R185). It does nothing where main power is on already. -/
def execMainPowerRise (order : List StartWork) (s : State) : Host.Outcome State Fault Refusal :=
  .next (if s.lnk.mainPower then s else if s.lnk.retention then s.warmStart order else s.coldStart)

/-- Main power falls: no handling is under way between two commands, the records are retained, and the lines are deasserted
(R185; log 24). -/
def execMainPowerFall (s : State) : Host.Outcome State Fault Refusal :=
  .next (State.settleLines { s with lnk := { s.lnk with mainPower := false } })

/-- Standby power is lost: the retention flag is cleared (R185; log 23). -/
def execStandbyPowerLoss (s : State) : Host.Outcome State Fault Refusal :=
  .next { s with lnk := { s.lnk with retention := false } }

end Sys2Proof.Machine
end

