-- ==== Sys2Proof/Machine/Dispatch.lean ====
section
/-! DEFINITION. One arm per command: each calls its meaning. -/

namespace Sys2Proof.Machine

def exec (i : Instr) (s : State) : Host.Outcome State Fault Refusal :=
  match i with
  | .mainPowerRise order => Sys2Proof.Machine.execMainPowerRise order s
  | .mainPowerFall => Sys2Proof.Machine.execMainPowerFall s
  | .standbyPowerLoss => Sys2Proof.Machine.execStandbyPowerLoss s
  | .linkResetAssert => Sys2Proof.Machine.execLinkResetAssert s
  | .linkResetRelease => Sys2Proof.Machine.execLinkResetRelease s
  | .writeFrame bytes => Sys2Proof.Machine.execWriteFrame bytes s
  | .malformedMarker => Sys2Proof.Machine.execMalformedMarker s
  | .readReply clocked => Sys2Proof.Machine.execReadReply clocked s
  | .readNotice clocked => Sys2Proof.Machine.execReadNotice clocked s
  | .readLinkStatus clocked => Sys2Proof.Machine.execReadLinkStatus clocked s
  | .setAttentionMask bytes => Sys2Proof.Machine.execSetAttentionMask bytes s
  | .resync clocked => Sys2Proof.Machine.execResync s clocked
  | .accountOpen tag fields => Sys2Proof.Machine.execAccountOpen tag fields s
  | .accountSet tag fields => Sys2Proof.Machine.execAccountSet tag fields s
  | .accountRead tag account => Sys2Proof.Machine.execAccountRead tag account s
  | .accountSuspend tag account => Sys2Proof.Machine.execAccountSuspend tag account s
  | .accountResume tag account => Sys2Proof.Machine.execAccountResume tag account s
  | .accountCredit tag account amount => Sys2Proof.Machine.execAccountCredit tag account amount s
  | .peakClear tag account => Sys2Proof.Machine.execPeakClear tag account s
  | .accountRetire tag account => Sys2Proof.Machine.execAccountRetire tag account s
  | .badgeBind tag code account => Sys2Proof.Machine.execBadgeBind tag code account s
  | .badgeUnbind tag code account => Sys2Proof.Machine.execBadgeUnbind tag code account s
  | .badgeFind tag code => Sys2Proof.Machine.execBadgeFind tag code s
  | .poolRetire tag pool => Sys2Proof.Machine.execPoolRetire tag pool s
  | .poolOpen tag pool allotment => Sys2Proof.Machine.execPoolOpen tag pool allotment s
  | .poolSet tag pool allotment => Sys2Proof.Machine.execPoolSet tag pool allotment s
  | .poolRead tag pool => Sys2Proof.Machine.execPoolRead tag pool s
  | .poolCredit tag pool amount => Sys2Proof.Machine.execPoolCredit tag pool amount s
  | .quotaConfig tag mono colour period => Sys2Proof.Machine.execQuotaConfig tag mono colour period s
  | .jobSubmit tag fields => Sys2Proof.Machine.execJobSubmit tag fields s
  | .jobCancel tag job account => Sys2Proof.Machine.execJobCancel tag job account s
  | .jobRead tag job => Sys2Proof.Machine.execJobRead tag job s
  | .jobList tag account position => Sys2Proof.Machine.execJobList tag account position s
  | .holdConfig tag hours => Sys2Proof.Machine.execHoldConfig tag hours s
  | .expiryDeadline job => Sys2Proof.Machine.execExpiryDeadline job s
  | .badgePresented tag printer code => Sys2Proof.Machine.execBadgePresented tag printer code s
  | .next tag printer => Sys2Proof.Machine.execNext tag printer s
  | .previous tag printer => Sys2Proof.Machine.execPrevious tag printer s
  | .select tag printer => Sys2Proof.Machine.execSelect tag printer s
  | .selectAll tag printer => Sys2Proof.Machine.execSelectAll tag printer s
  | .delete tag printer => Sys2Proof.Machine.execDelete tag printer s
  | .done tag printer => Sys2Proof.Machine.execDone tag printer s
  | .drainGrant printer => Sys2Proof.Machine.execDrainGrant printer s
  | .idleDeadline printer => Sys2Proof.Machine.execIdleDeadline printer s
  | .spoolAccepted tag job grant => Sys2Proof.Machine.execSpoolAccepted tag job grant s
  | .spoolFailed tag job grant => Sys2Proof.Machine.execSpoolFailed tag job grant s
  | .pagesDone tag fields => Sys2Proof.Machine.execPagesDone tag fields s
  | .grantWindow job => Sys2Proof.Machine.execGrantWindow job s
  | .completionWindow job => Sys2Proof.Machine.execCompletionWindow job s
  | .visitRead tag printer => Sys2Proof.Machine.execVisitRead tag printer s
  | .releaseConfig tag fields => Sys2Proof.Machine.execReleaseConfig tag fields s
  | .printerAdd tag fields => Sys2Proof.Machine.execPrinterAdd tag fields s
  | .printerSet tag fields => Sys2Proof.Machine.execPrinterSet tag fields s
  | .printerRead tag printer => Sys2Proof.Machine.execPrinterRead tag printer s
  | .statusReport tag printer conditions readings => Sys2Proof.Machine.execStatusReport tag printer conditions readings s
  | .conditionsClear tag printer conditions => Sys2Proof.Machine.execConditionsClear tag printer conditions s
  | .serviceWithdraw tag printer => Sys2Proof.Machine.execServiceWithdraw tag printer s
  | .serviceReturn tag printer => Sys2Proof.Machine.execServiceReturn tag printer s
  | .healthConfig tag fields => Sys2Proof.Machine.execHealthConfig tag fields s
  | .printerRetire tag printer => Sys2Proof.Machine.execPrinterRetire tag printer s
  | .printerReseat tag printer => Sys2Proof.Machine.execPrinterReseat tag printer s
  | .qualificationDeadline printer condition => Sys2Proof.Machine.execQualificationDeadline printer condition s
  | .restartDeadline printer => Sys2Proof.Machine.execRestartDeadline printer s
  | .restartCreditDeadline printer => Sys2Proof.Machine.execRestartCreditDeadline printer s
  | .heartbeatDeadline printer => Sys2Proof.Machine.execHeartbeatDeadline printer s
  | .absenceDeadline printer => Sys2Proof.Machine.execAbsenceDeadline printer s
  | .supplyDefine tag supplyType colour modelGroup settings => Sys2Proof.Machine.execSupplyDefine tag supplyType colour modelGroup settings s
  | .supplySet tag supplyType settings => Sys2Proof.Machine.execSupplySet tag supplyType settings s
  | .supplyRead tag supplyType => Sys2Proof.Machine.execSupplyRead tag supplyType s
  | .supplyConfig tag shift => Sys2Proof.Machine.execSupplyConfig tag shift s
  | .supplyRetire tag supplyType => Sys2Proof.Machine.execSupplyRetire tag supplyType s
  | .cartridgeInstall tag printer slot supplyType => Sys2Proof.Machine.execCartridgeInstall tag printer slot supplyType s
  | .cartridgeRead tag printer slot => Sys2Proof.Machine.execCartridgeRead tag printer slot s
  | .orderPlaced tag supplyType quantity => Sys2Proof.Machine.execOrderPlaced tag supplyType quantity s
  | .deliveryReceived tag supplyType quantity => Sys2Proof.Machine.execDeliveryReceived tag supplyType quantity s
  | .stockAdjust tag supplyType count => Sys2Proof.Machine.execStockAdjust tag supplyType count s
  | .overdueDeadline supplyType => Sys2Proof.Machine.execOverdueDeadline supplyType s
  | .calloutRead tag ticket => Sys2Proof.Machine.execCalloutRead tag ticket s
  | .calloutList tag selection position => Sys2Proof.Machine.execCalloutList tag selection position s
  | .calloutAck tag ticket => Sys2Proof.Machine.execCalloutAck tag ticket s
  | .calloutClose tag ticket => Sys2Proof.Machine.execCalloutClose tag ticket s
  | .calloutConfig tag fields => Sys2Proof.Machine.execCalloutConfig tag fields s
  | .acknowledgementDeadline ticket => Sys2Proof.Machine.execAcknowledgementDeadline ticket s
  | .workDeadline ticket => Sys2Proof.Machine.execWorkDeadline ticket s
  | .clockSet tag wall countdown => Sys2Proof.Machine.execClockSet tag wall countdown s
  | .clockRead tag => Sys2Proof.Machine.execClockRead tag s
  | .rollDeadline => Sys2Proof.Machine.execRollDeadline s
  | .uptimeTick => Sys2Proof.Machine.execUptimeTick s

end Sys2Proof.Machine
end

