-- ==== Sys2Proof/Machine/Port.lean ====
section
/-! DEFINITION. The port as the host sees it: what a transaction of any bytes does (R176). The six transactions are commands of
their own; the rest, which are no row of spec/opcode_table.json, are said here (log 30). -/

namespace Sys2Proof.Machine

/-- A transaction that is none of the six: the target ignores it, its bytes read 0x00, and no queue, flag or line changes (R176). With
main power off the port drives nothing (log 8). -/
def State.unnamedTransaction (s : State) (clocked : List Byte) : State :=
  { s with lnk := { s.lnk with dataOut := if s.lnk.mainPower then clocked.map (fun _ => 0) else [] } }

/-- A transaction, from the assertion of SELECT to its release, in which the host clocks these whole bytes (R176). -/
def transaction (clocked : List Byte) (s : State) : Host.Outcome State Fault Refusal :=
  match transactionOf clocked with
  | some c => exec c s
  | none => .next (s.unnamedTransaction clocked)

end Sys2Proof.Machine
end

