-- ==== Sys2Proof/Safety.lean ====
section
/-! DEFINITION. The words the statements use: when a request is taken, what an answered request and an event leave of the whole
state, and the invariants. -/

namespace Sys2Proof.Safety

open Sys2Proof.Machine

/-- The request is at the head of the request queue, main power is on and the reply queue has room: it is taken (R179). -/
structure Taken (s : State) (c : Instr) : Prop where
  power : s.lnk.mainPower = true
  head : s.lnk.requests.head? = some (.request c)
  room : s.lnk.replies.length < 32

/-- The state that a taken request leaves: the records, the request gone from the queue, its notices placed in order, its one
reply at the tail of the reply queue, the lines at the values their rules give, and nothing else changed (R179, R181). -/
def answered (s : State) (code : Nat) (tag : Tag) (r : Records) (raised : List Raised) (outcome : ReplyOutcome)
    (body : List Field) : State :=
  { s with
    toRecords := r
    lnk := ((Lnk.placeAll { s.lnk with requests := s.lnk.requests.tail } raised).reply
      { code, outcome, tag, body }).settleLines r.cou.alarm }

/-- The state that a taken request leaves whose handling is known by its work: what it did to the records and the notices it
raised (R179). -/
def worked (s : State) (code : Nat) (tag : Tag) (w : Work) (outcome : ReplyOutcome) (body : List Field) : State :=
  answered s code tag w.toRecords w.raised outcome body

/-- The state that a taken request leaves which changes no record and raises no notice: a read, or a refusal. -/
def replied (s : State) (code : Nat) (tag : Tag) (outcome : ReplyOutcome) (body : List Field) : State :=
  answered s code tag s.toRecords [] outcome body

/-- The state that an event at a block leaves: the records, its notices placed in order, the lines at the values their rules
give, and nothing else changed. -/
def happened (s : State) (r : Records) (raised : List Raised) : State :=
  { s with toRecords := r, lnk := (s.lnk.placeAll raised).settleLines r.cou.alarm }

/-- The state that an event leaves whose handling is known by its work. -/
def passed (s : State) (w : Work) : State := happened s w.toRecords w.raised

/-- The state in which the link stands as given, its lines at the values their rules give, and nothing else changed. -/
def settled (s : State) (l : Lnk) : State := { s with lnk := l.settleLines s.cou.alarm }

/-- What the port returns for a transaction: 0x00 for the transaction byte, the record's bytes as far as they are clocked, and 0x00
for every byte clocked beyond its end (R176). -/
def sent (record : List Byte) (clocked : Nat) : List Byte :=
  0 :: (record.take clocked ++ List.replicate (clocked - record.length) 0)

/-- Whether the deadline has been reached: its value, unless it was armed after uptime had stopped (R168). -/
def fallen (now : Nat) (d : Deadline) : Prop := d.dormant = false ∧ d.value ≤ now

/-- The deadline that is armed at the current uptime plus a duration (R168). -/
def armed (now duration : Nat) : Deadline :=
  { value := min (now + duration) 4294967295, dormant := decide (4294967295 ≤ now) }

/-- The number that stands `k` places behind the one after `last`, counting from 1 to `top` and around. -/
def numberAfter (top last k : Nat) : Nat := (min last top + k) % top + 1

/-- `n` is the next number after `last` from 1 to `top`: the first one reached that is not in use, each one in use passed over
(R39, R145). -/
def nextNumber (top : Nat) (used : List Nat) (last n : Nat) : Prop :=
  ∃ k, n = numberAfter top last k ∧ n ∉ used ∧ ∀ m < k, numberAfter top last m ∈ used

/-! ### Invariants -/

/-- The key of a notice: its kind and the record it concerns (R181). -/
def noticeKey (n : Notice) : NoticeKind × Nat := (n.notice.kind, n.notice.key)

/-- The link's own invariant: the capacities of its queues, the owed list in use only behind a full notice queue, no key twice,
and the output lines at the values their rules give (R179 to R183). -/
structure LinkSound (s : State) : Prop where
  requests : s.lnk.requests.length ≤ 16
  replies : s.lnk.replies.length ≤ 32
  notices : s.lnk.notices.length ≤ 64
  owed : s.lnk.owed.length ≤ 1024
  owedBehindFull : s.lnk.owed ≠ [] → s.lnk.notices.length = 64
  keysOnce : ((s.lnk.notices ++ s.lnk.owed).map noticeKey).Nodup
  ready : s.lnk.ready = (s.lnk.mainPower && !s.lnk.linkResetHeld && decide (s.lnk.requests.length + 4 ≤ 16))
  attn : s.lnk.attn = (s.lnk.mainPower && (!s.lnk.replies.isEmpty
    || s.lnk.notices.any (fun n => s.lnk.mask.getLsbD n.notice.kind.classBit)))
  alarm : s.lnk.alarm = (s.lnk.mainPower && s.cou.alarm)

/-- Every balance lies within the bounds of R26, and every allotment within the range a replenishment relies on (R33). -/
structure BalancesBounded (r : Records) : Prop where
  accounts : ∀ e ∈ r.adir.accounts, -1048575 ≤ e.2.balance ∧ e.2.balance ≤ 2000000 ∧ e.2.allotment ≤ 1000000
  pools : ∀ e ∈ r.adir.pools, -1048575 ≤ e.2.balance ∧ e.2.balance ≤ 2000000 ∧ e.2.allotment ≤ 1000000

/-- Every fleet-wide setting stands in its range (R20, R54, R80, R103, R120, R154). -/
structure SettingsInRange (r : Records) : Prop where
  quota : (1 ≤ r.qtu.monoWeight ∧ r.qtu.monoWeight ≤ 15) ∧ (1 ≤ r.qtu.colourWeight ∧ r.qtu.colourWeight ≤ 63)
    ∧ (1 ≤ r.qtu.periodLength ∧ r.qtu.periodLength ≤ 62)
  hold : 1 ≤ r.hq.holdHours ∧ r.hq.holdHours ≤ 168
  release : (10 ≤ r.rlu.idleTimeout ∧ r.rlu.idleTimeout ≤ 300) ∧ (30 ≤ r.rlu.grantWindow ∧ r.rlu.grantWindow ≤ 900)
    ∧ (300 ≤ r.rlu.completionWindow ∧ r.rlu.completionWindow ≤ 86400)
    ∧ (1 ≤ r.rlu.maxAttempts ∧ r.rlu.maxAttempts ≤ 5)
  health : r.ptb.paperOut ≤ 3600 ∧ r.ptb.paperJam ≤ 3600 ∧ r.ptb.doorOpen ≤ 3600 ∧ r.ptb.fuser ≤ 3600
    ∧ r.ptb.engine ≤ 3600 ∧ r.ptb.offline ≤ 3600 ∧ (120 ≤ r.ptb.restartWindow ∧ r.ptb.restartWindow ≤ 1800)
    ∧ (60 ≤ r.ptb.absenceDelay ∧ r.ptb.absenceDelay ≤ 86400)
  supply : 1 ≤ r.spu.shift ∧ r.spu.shift ≤ 4
  callouts : (300 ≤ r.cou.ack0 ∧ r.cou.ack0 ≤ 86400) ∧ (300 ≤ r.cou.ack1 ∧ r.cou.ack1 ≤ 86400)
    ∧ (300 ≤ r.cou.ack2 ∧ r.cou.ack2 ≤ 86400) ∧ (300 ≤ r.cou.ack3 ∧ r.cou.ack3 ≤ 86400)
    ∧ (1800 ≤ r.cou.workTime ∧ r.cou.workTime ≤ 172800) ∧ r.cou.alarmLevel ≤ 4

/-- No printer has more than 4 jobs in flight (R72), and no more than 64 tickets are open (R144). -/
structure CountsBounded (r : Records) : Prop where
  flight : ∀ e ∈ r.rlu.inFlight, e.2.length ≤ 4
  tickets : r.cou.tickets.length ≤ 64

/-- A table's indices rise, from `low` on and below `high`. -/
structure Rising {α : Type} (low high : Nat) (t : Table α) : Prop where
  rising : t.Pairwise (fun e f => e.1 < f.1)
  within : ∀ e ∈ t, low ≤ e.1 ∧ e.1 < high

/-- Every record stands once, at an index of its kind (00 "Record kinds" and "Capacities"), and every badge code is bound at most
once (R10). -/
structure TablesSound (r : Records) : Prop where
  accounts : Rising 0 4096 r.adir.accounts
  pools : Rising 0 64 r.adir.pools
  jobs : Rising 1 65536 r.hq.jobs
  lists : Rising 0 4096 r.hq.lists
  visits : Rising 0 96 r.rlu.visits
  inFlight : Rising 0 96 r.rlu.inFlight
  printers : Rising 0 96 r.ptb.printers
  slots : Rising 0 384 r.spu.slots
  types : Rising 0 32 r.spu.types
  badges : (r.adir.badges.map (·.code)).Nodup

/-- The key of a cause: its printer, its kind, and for SUPPLY its slot; the condition of a FAULT is no part of it (R143). -/
def causeKey (c : Nat × CauseKind) : Nat × Nat × Option SlotLetter := (c.1, c.2.code, c.2.slot?)

/-- The causes that have a ticket, open or owed, each with its printer. -/
def causes (r : Records) : List (Nat × CauseKind) :=
  r.cou.tickets.map (fun t => (t.printer, t.kind)) ++ r.cou.backlog.map (fun o => (o.printer, o.kind))

/-- What a printer with an open or owed cause shows (R144, R151): for FAULT and RESTART it is OUT_OF_SERVICE, not by request; for
ABSENCE it is silent, its absence deadline taken; for SUPPLY the slot is EMPTY. -/
def causeStands (r : Records) (c : Nat × CauseKind) : Prop :=
  match c.2 with
  | .absence => ∃ p, r.ptb.printers.lookup c.1 = some p ∧ p.present = false ∧ p.absence = none
      ∧ ∀ accepted, p.state ≠ .retiring accepted
  | .supply l => ∃ s, r.spu.slots.lookup (slotKey c.1 l) = some s ∧ s.state = .empty
  | _ => ∃ p cause, r.ptb.printers.lookup c.1 = some p ∧ p.state = .outOfService cause ∧ cause ≠ .byRequest

/-- A printer's presence and its deadlines agree: a printer that is watched for silence, restarts or is judged is present, one whose
absence deadline is armed is not, a restart is not watched, and a RETIRING printer holds neither deadline (R87, R91, R93,
R94, R162). -/
structure PresenceSound (p : Printer) : Prop where
  watched : p.heartbeat ≠ none → p.present = true
  judged : (p.state = .restarting ∨ p.state = .qualifying) → p.present = true
  silent : p.absence ≠ none → p.present = false
  restarting : p.state = .restarting → p.heartbeat = none
  retiring : ∀ accepted, p.state = .retiring accepted → p.heartbeat = none ∧ p.absence = none

/-- COU's own invariant: no ticket number twice (R145), at most one ticket, open or owed, for each key, and each with its cause
standing (R144, R151). -/
structure CalloutsSound (r : Records) : Prop where
  numbers : (r.cou.tickets.map (·.number)).Nodup
  keys : ((causes r).map causeKey).Nodup
  standing : ∀ c ∈ causes r, causeStands r c
  presence : ∀ e ∈ r.ptb.printers, PresenceSound e.2

/-- The reservation lists and the tickets agree (R129): the list of a type holds once each slot fitted with the type whose ticket
holds a unit, and no other, and is no longer than the stock on hand; a ticket that waits for stock holds no unit. -/
structure StockSound (r : Records) : Prop where
  held : ∀ t ∈ r.cou.tickets, t.holdsUnit = true → ∃ key i ty, t.key? = some key ∧ fittedType? r key = some i
    ∧ r.spu.types.lookup i = some ty ∧ key ∈ ty.reservations
  listed : ∀ i ty, r.spu.types.lookup i = some ty → ∀ key ∈ ty.reservations, fittedType? r key = some i
    ∧ ∃ t ∈ r.cou.tickets, t.key? = some key ∧ t.holdsUnit = true
  once : ∀ i ty, r.spu.types.lookup i = some ty → ty.reservations.Nodup
  shelf : ∀ i ty, r.spu.types.lookup i = some ty → ty.reservations.length ≤ ty.onHand
  waiting : ∀ t ∈ r.cou.tickets, t.state = .waitingStock → t.holdsUnit = false

/-! How the records of one block agree with those of another. -/

/-- The live jobs of an account, with their numbers. -/
def ownedBy (r : Records) (i : Nat) : List (Nat × Job) := r.hq.jobs.filter (fun e => e.2.owner == i)

/-- The part of a job's reservation that its account bears, and the part its pool bears; a HELD job has none (R38). -/
def accountShare (j : Job) : Nat := (j.stage.grant?.map (·.accountPart)).getD 0
def poolShare (j : Job) : Nat := (j.stage.grant?.map (·.poolPart)).getD 0

/-- The service state is RETIRING. -/
def isRetiring : ServiceState → Bool
  | .retiring _ => true
  | _ => false

/-- The jobs a visit lists: its menu, or its drain list. -/
def visitJobs : Visit → List Nat
  | .opened v => v.menu
  | .draining d => d.jobs

/-- The bindings and the member counts: a binding has a code and names an account that is not FREE, and a badge count is the number
of bindings that name the account (R1, R10); a pool that an account names stands, and its member count is the number of accounts
that name it (R6, R14). -/
structure MembersAgree (r : Records) : Prop where
  capacity : r.adir.badges.length ≤ 6144
  bound : ∀ b ∈ r.adir.badges, b.code ≠ 0 ∧ ∃ a ∈ r.adir.accounts, a.1 = b.account
  badgeCounts : ∀ a ∈ r.adir.accounts,
    a.2.badgeCount = (r.adir.badges.filter (fun b => b.account == a.1)).length ∧ a.2.badgeCount ≤ 2
  named : ∀ a ∈ r.adir.accounts, a.2.pool = none ∨ ∃ q ∈ r.adir.pools, a.2.pool = some q.1
  members : ∀ q ∈ r.adir.pools,
    q.2.state = .active ∧ q.2.members = (r.adir.accounts.filter (fun a => a.2.pool == some q.1)).length

/-- The reserved points: an account's are the sum of the account parts of its jobs' reservations, and a pool's the sum of the pool
parts drawn on it, which are those of its members' jobs (R22). -/
structure ReservedAgree (r : Records) : Prop where
  accounts : ∀ a ∈ r.adir.accounts, a.2.reserved = ((ownedBy r a.1).map (fun e => accountShare e.2)).sum
  pools : ∀ q ∈ r.adir.pools,
    q.2.reserved = ((r.adir.accounts.filter (fun a => a.2.pool == some q.1)).flatMap
      (fun a => (ownedBy r a.1).map (fun e => poolShare e.2))).sum

/-- The job lists: every live job's owner is not FREE, a FREE account has no list, an account's list holds each of its live jobs
once and no other, its live job count is the list's length, at most 32, and a RETIRING account has no HELD job (R40, R159). -/
structure JobsAgree (r : Records) : Prop where
  capacity : r.hq.jobs.length ≤ 2048
  owners : ∀ e ∈ r.hq.jobs, ∃ a ∈ r.adir.accounts, a.1 = e.2.owner
  free : ∀ l ∈ r.hq.lists, ∃ a ∈ r.adir.accounts, a.1 = l.1
  once : ∀ a ∈ r.adir.accounts, (r.hq.lists.list a.1).Nodup
  listed : ∀ a ∈ r.adir.accounts, ∀ n ∈ r.hq.lists.list a.1, ∃ e ∈ ownedBy r a.1, e.1 = n
  complete : ∀ a ∈ r.adir.accounts, ∀ e ∈ ownedBy r a.1, e.1 ∈ r.hq.lists.list a.1
  live : ∀ a ∈ r.adir.accounts, a.2.liveJobs = (r.hq.lists.list a.1).length ∧ a.2.liveJobs ≤ 32
  retiring : ∀ a ∈ r.adir.accounts, ownerRetiring r a.1 = true → ∀ e ∈ ownedBy r a.1, e.2.stage ≠ .held

/-- The in-flight lists: a printer's list holds each job in RELEASING or PRINTING assigned to it once and no other, such a job's
printer is not FREE, and while it is RELEASING serves or retires; an account's in-flight count is the number of its jobs in those
states (R1, R72). A RETIRING account or printer has something in flight (R160, R164). -/
structure FlightAgrees (r : Records) : Prop where
  free : ∀ l ∈ r.rlu.inFlight, ∃ q ∈ r.ptb.printers, q.1 = l.1
  once : ∀ q ∈ r.ptb.printers, ((inFlightList r q.1).map (·.job)).Nodup
  listed : ∀ q ∈ r.ptb.printers, ∀ f ∈ inFlightList r q.1,
    ∃ e ∈ r.hq.jobs, e.1 = f.job ∧ e.2.stage.grant?.map (·.printer) = some q.1
  assigned : ∀ e ∈ r.hq.jobs, e.2.stage.grant? = none ∨ ∃ q ∈ r.ptb.printers,
    e.2.stage.grant?.map (·.printer) = some q.1 ∧ e.1 ∈ (inFlightList r q.1).map (·.job)
      ∧ (e.2.stage.accepted? = none →
          q.2.state = .inService ∨ q.2.state = .qualifying ∨ isRetiring q.2.state = true)
  counted : ∀ a ∈ r.adir.accounts, a.2.inFlight = ((ownedBy r a.1).filter (fun e => e.2.stage.grant?.isSome)).length
  retiringAccounts : ∀ a ∈ r.adir.accounts, ownerRetiring r a.1 = true → 0 < a.2.inFlight
  retiringPrinters : ∀ q ∈ r.ptb.printers, isRetiring q.2.state = true → inFlightList r q.1 ≠ []

/-- The visits: a visit's account is ACTIVE and holds its terminal as its open visit, an open visit is a visit of the account at
that terminal, and the terminal's printer serves (R57, R78, R79); a menu or a drain list holds HELD jobs of the account, in
submission order, at most 8 or 32, and the cursor stands on an entry (R57, R61, R62, R69). -/
structure VisitsAgree (r : Records) : Prop where
  accounts : ∀ v ∈ r.rlu.visits, ∃ a ∈ r.adir.accounts, a.1 = v.2.account ∧ a.2.openVisit = some v.1 ∧ a.2.state = .active
  terminals : ∀ a ∈ r.adir.accounts, a.2.openVisit = none
    ∨ ∃ v ∈ r.rlu.visits, a.2.openVisit = some v.1 ∧ v.2.account = a.1
  printers : ∀ v ∈ r.rlu.visits, ∃ q ∈ r.ptb.printers, q.1 = v.1 ∧ (q.2.state = .inService ∨ q.2.state = .qualifying)
  ordered : ∀ v ∈ r.rlu.visits, (visitJobs v.2).Sublist (r.hq.lists.list v.2.account)
  held : ∀ v ∈ r.rlu.visits, ∀ n ∈ visitJobs v.2, ∃ e ∈ ownedBy r v.2.account, e.1 = n ∧ e.2.stage = .held
  sizes : ∀ v ∈ r.rlu.visits, match v.2 with
    | .opened v => v.menu.length ≤ 8 ∧ (v.cursor = 0 ∨ v.cursor < v.menu.length)
    | .draining d => 1 ≤ d.jobs.length ∧ d.jobs.length ≤ 32

/-- The records of the blocks agree with each other. -/
structure RecordsAgree (r : Records) : Prop where
  members : MembersAgree r
  reserved : ReservedAgree r
  jobs : JobsAgree r
  flight : FlightAgrees r
  visits : VisitsAgree r

/-- The clock's fields stand in their ranges (R168, R170, R171), and while the clock-set flag is clear the offset is 0 and no roll
deadline is held (R169). -/
structure ClockSound (r : Records) : Prop where
  uptime : r.fck.uptime ≤ 4294967295
  dayIndex : r.fck.dayIndex < 65536
  countdown : 1 ≤ r.fck.countdown ∧ r.fck.countdown ≤ 62
  period : 1 ≤ r.qtu.periodLength ∧ r.qtu.periodLength ≤ 62
  unset : r.fck.clockSet = false → r.fck.offset = 0 ∧ r.fck.roll = none

end Sys2Proof.Safety
end

