-- ==== Sys2Proof/Certificates/Slice0/Obligations.lean ====
section
/-! DEFINITION. The statements for the provers. A statement marked "model's choice" rests in part on an assumption of the log,
which its docstring names. -/

section
open Sys2Proof Sys2Proof.Machine Sys2Proof.Safety

/-! ### The machine as a whole -/

/-- A step carries out the command at the front of the queue with the queue's rest; on an empty queue the part idles (model's
choice, logs 1 and 2). -/
def Obligations.StepTakesFrontCommand : Prop :=
  ∀ s : State,
    (∀ c rest, s.pending = c :: rest → step s = exec c { s with pending := rest })
    ∧ (s.pending = [] → step s = .next s)

/-- The state after reset holds the values of a cold start (R17, R35, R55, R82, R103, R104, R122, R154, R156, R174, R185). That
reset is the state after a cold start, with nothing waiting (log 6), that bit 7 of the attention mask, which no class has, is 0
after a start (log 9), and that the two counts START does not carry are absent (log 17), are the model's choice. -/
def Obligations.ResetValues : Prop :=
  State.reset.adir = { accounts := [], pools := [], badges := [] }
  ∧ State.reset.qtu = { monoWeight := 2, colourWeight := 8, periodLength := 30 }
  ∧ State.reset.hq = { jobs := [], lists := [], lastJob := 0, holdHours := 24 }
  ∧ State.reset.rlu =
      { visits := [], inFlight := [], lastGrant := 0, idleTimeout := 60, grantWindow := 120, completionWindow := 3600,
        maxAttempts := 3 }
  ∧ State.reset.ptb =
      { printers := [], paperOut := 300, paperJam := 120, doorOpen := 180, fuser := 30, engine := 30, offline := 60,
        restartWindow := 600, absenceDelay := 900 }
  ∧ State.reset.spu = { slots := [], types := [], shift := 3 }
  ∧ State.reset.cou =
      { tickets := [], backlog := [], lastTicket := 0, ack0 := 1800, ack1 := 1800, ack2 := 3600, ack3 := 3600,
        workTime := 14400, alarmLevel := 2, alarm := false }
  ∧ State.reset.fck = { uptime := 0, offset := 0, clockSet := false, roll := none, dayIndex := 0, countdown := 30 }
  ∧ State.reset.lnk.requests = [] ∧ State.reset.lnk.replies = [] ∧ State.reset.lnk.owed = []
  ∧ State.reset.lnk.notices =
      [{ notice := { kind := .start, key := 0, body := [u8 0, u32 0, u8 0, .absent, .absent] }, changes := 0 }]
  ∧ State.reset.lnk.mask = 0x7F ∧ State.reset.lnk.inboxOverrun = false ∧ State.reset.lnk.noticesLost = false
  ∧ State.reset.lnk.startKind = .cold ∧ State.reset.lnk.retention = true ∧ State.reset.lnk.mainPower = true
  ∧ State.reset.lnk.ready = true ∧ State.reset.lnk.attn = true ∧ State.reset.lnk.alarm = false
  ∧ State.reset.pending = []

/-- The state after reset meets every invariant of the model. -/
def Obligations.ResetMeetsInvariants : Prop :=
  LinkSound State.reset ∧ TablesSound State.reset.toRecords ∧ CountsBounded State.reset.toRecords
  ∧ RecordsAgree State.reset.toRecords ∧ CalloutsSound State.reset.toRecords ∧ StockSound State.reset.toRecords
  ∧ BalancesBounded State.reset.toRecords ∧ SettingsInRange State.reset.toRecords ∧ ClockSound State.reset.toRecords

/-- Every step keeps the capacities of the link's queues, the rule of the owed list, the uniqueness of notice keys, and the lines
at the values their rules give. -/
def Obligations.StepKeepsLinkSound : Prop :=
  ∀ s t : State, LinkSound s → step s = .next t → LinkSound t

/-- Every step keeps each record standing once at an index of its kind, each badge code bound at most once, at most 4 jobs in
flight at a printer and at most 64 open tickets; and with them no ticket number twice, at most one ticket, open or owed, for each
cause, each with its cause standing (R10, R72, R144, R145, R151); and with these the reservation lists in agreement with the
tickets that hold units, and within the stock on hand (R129). And with the first the agreement of the blocks' records: member and
badge counts with the records they count (R1, R6, R10, R14), reserved points with the sum of the reservations (R22), job lists and
live job counts with the live jobs (R40), in-flight lists and counts with the jobs in flight (R72, R160, R164), and visits with
their accounts, printers and jobs (R57). -/
def Obligations.StepKeepsTablesAndCounts : Prop :=
  ∀ s t : State, TablesSound s.toRecords → CountsBounded s.toRecords → step s = .next t →
    (TablesSound t.toRecords ∧ CountsBounded t.toRecords)
    ∧ (CalloutsSound s.toRecords → CalloutsSound t.toRecords ∧ (StockSound s.toRecords → StockSound t.toRecords))
    ∧ (RecordsAgree s.toRecords → RecordsAgree t.toRecords)

/-- Every step keeps every balance within the bounds of R26. -/
def Obligations.StepKeepsBalances : Prop :=
  ∀ s t : State, BalancesBounded s.toRecords → step s = .next t → BalancesBounded t.toRecords

/-- Every step keeps every fleet-wide setting in its range. -/
def Obligations.StepKeepsSettings : Prop :=
  ∀ s t : State, SettingsInRange s.toRecords → step s = .next t → SettingsInRange t.toRecords

/-- Every step keeps the clock's fields in their ranges, and an unset clock without offset or roll deadline. -/
def Obligations.StepKeepsClock : Prop :=
  ∀ s t : State, ClockSound s.toRecords → step s = .next t → ClockSound t.toRecords

/-- One to four well-formed requests written into a frame, and any bytes clocked behind it, are read back as those requests in
their order. No bit of a request's encoding is dropped. -/
def Obligations.FrameCarriesRequests : Prop :=
  ∀ (cs : List Instr) (extra : List Byte), cs ≠ [] → cs.length ≤ 4 →
    (∀ c ∈ cs, c.wf = true ∧ c.request? ≠ none) → (writeRequests cs).length ≤ 510 →
    frameEntries (writeFrame cs ++ extra) = cs.map Entry.request

/-- A request at the head of the request queue is carried out with exactly one reply, which carries its code and its tag and joins
the tail of the reply queue; the request leaves the queue, and the rest of the link changes by its notices alone. A request behind
another one, or before a full reply queue, is not taken, and nothing changes (R179). That a request of the command queue stands for
the one at the head is the model's choice (logs 1 and 3). -/
def Obligations.EveryRequestAnsweredOnce : Prop :=
  ∀ (s : State) (c : Instr) (code : Nat) (tag : Tag), c.request? = some (code, tag) →
    (Taken s c →
      ∃ r raised outcome body, exec c s = .next (answered s code tag r raised outcome body)
        ∧ (answered s code tag r raised outcome body).lnk.replies = s.lnk.replies ++ [Reply.mk code outcome tag body]
        ∧ (answered s code tag r raised outcome body).lnk.requests = s.lnk.requests.tail
        ∧ (answered s code tag r raised outcome body).lnk.mask = s.lnk.mask
        ∧ (answered s code tag r raised outcome body).pending = s.pending)
    ∧ ((32 ≤ s.lnk.replies.length ∨ s.lnk.requests.head? ≠ some (.request c)) → s.lnk.requests ≠ [] →
        exec c s = .next s)

/-- No command but the passing of a second changes uptime; a cold start alone sets it, to 0 (R168). -/
def Obligations.UptimeMovesByTickAlone : Prop :=
  ∀ (s t : State) (c : Instr), exec c s = .next t → c ≠ .uptimeTick →
    t.fck.uptime = s.fck.uptime
    ∨ (∃ order, c = .mainPowerRise order) ∧ s.lnk.mainPower = false ∧ s.lnk.retention = false ∧ t.fck.uptime = 0

/-- While main power is off, no command but its rise and the passing of a second changes a record or a queue, and deasserted lines
stay deasserted (R185). That no command waits for power to return (logs 1 and 3), that the loss of standby power meanwhile leaves
the records for the next start to clear (log 23), that the queues are kept until then (log 24), and that LINK_RESET, asserted or
released without main power, resets nothing (log 31), are the model's choice. -/
def Obligations.PowerOffHolds : Prop :=
  ∀ (s : State) (c : Instr), s.lnk.mainPower = false → (∀ order, c ≠ .mainPowerRise order) → c ≠ .uptimeTick →
    ∃ t, exec c s = .next t ∧ t.toRecords = s.toRecords ∧ t.pending = s.pending ∧ t.lnk.mainPower = false
      ∧ t.lnk.requests = s.lnk.requests ∧ t.lnk.replies = s.lnk.replies ∧ t.lnk.notices = s.lnk.notices
      ∧ t.lnk.owed = s.lnk.owed ∧ t.lnk.mask = s.lnk.mask
      ∧ (s.lnk.ready = false → s.lnk.attn = false → s.lnk.alarm = false →
          t.lnk.ready = false ∧ t.lnk.attn = false ∧ t.lnk.alarm = false)

/-! ### The fleet link -/

/-- R181: where a raised notice is placed, and that its key then stands at most once. -/
def Obligations.NoticePlacement : Prop :=
  ∀ (l : Lnk) (r : Raised),
    let replaced := fun n : Notice =>
      if noticeKey n = (r.kind, r.key) then { notice := r, changes := min (n.changes + 1) 255 } else n
    let queued := ∃ n ∈ l.notices, noticeKey n = (r.kind, r.key)
    let owed := ∃ n ∈ l.owed, noticeKey n = (r.kind, r.key)
    (queued → l.place r = { l with notices := l.notices.map replaced })
    ∧ (¬queued → owed → l.place r = { l with owed := l.owed.map replaced })
    ∧ (¬queued → ¬owed → l.notices.length < 64 → l.owed = [] →
        l.place r = { l with notices := l.notices ++ [{ notice := r, changes := 0 }] })
    ∧ (¬queued → ¬owed → ¬(l.notices.length < 64 ∧ l.owed = []) → l.owed.length < 1024 →
        l.place r = { l with owed := l.owed ++ [{ notice := r, changes := 0 }] })
    ∧ (¬queued → ¬owed → ¬(l.notices.length < 64 ∧ l.owed = []) → 1024 ≤ l.owed.length →
        l.place r = { l with noticesLost := true })
    ∧ (((l.notices ++ l.owed).map noticeKey).Nodup →
        (((l.place r).notices ++ (l.place r).owed).map noticeKey).Nodup)

/-- A frame joins the request queue whole where READY is asserted, and is discarded with INBOX_OVERRUN set where it is not; an
unsound frame is one marker without code or tag; no frame makes more than four entries; bytes clocked beyond the frame length are
ignored, in an unsound frame as in a sound one (R177). A malformed request of a sound frame
becomes a marker with its code, and with its tag if that can be read: the requests before it enter as they are, and the bytes after
it are discarded (R178). That one transaction is one command, what the port returns meanwhile, and the count of bytes discarded
where the byte found wrong is open, are the model's choice (logs 7, 8 and 20). -/
def Obligations.WriteFrame : Prop :=
  ∀ (s : State) (bytes : List Byte), s.lnk.mainPower = true → s.lnk.linkResetHeld = false →
    (s.lnk.requests.length ≤ 12 →
      exec (.writeFrame bytes) s =
        .next (settled s
          { s.lnk with requests := s.lnk.requests ++ frameEntries bytes, dataOut := sent [] bytes.length }))
    ∧ (12 < s.lnk.requests.length →
        exec (.writeFrame bytes) s =
          .next (settled s { s.lnk with inboxOverrun := true, dataOut := sent [] bytes.length }))
    ∧ 1 ≤ (frameEntries bytes).length ∧ (frameEntries bytes).length ≤ 4
    ∧ ((bytes.length < 2 ∨ beNat (bytes.take 2) = 0 ∨ 510 < beNat (bytes.take 2)
          ∨ bytes.length < 2 + beNat (bytes.take 2)) →
        ∃ offset discarded, discarded = min bytes.length (2 + beNat (bytes.take 2)) - (offset + 1)
          ∧ frameEntries bytes = [.marker 0 [] offset discarded])
    ∧ frameEntries (bytes.take (2 + beNat (bytes.take 2))) = frameEntries bytes
    ∧ ∀ (cs : List Instr) (header : Byte) (behind extra : List Byte), cs.length ≤ 3 →
        (∀ c ∈ cs, c.wf = true ∧ c.request? ≠ none) →
        let before := cs.flatMap (fun c => match c.request? with
          | none => []
          | some (code, tag) => c.bytes code tag true)
        let frame := before ++ header :: behind
        let code := header.toNat % 128
        let marked := fun tag : Tag => ∃ offset discarded, discarded = 2 + frame.length - (offset + 1)
          ∧ frameEntries (beBytes 2 frame.length ++ frame ++ extra) = cs.map Entry.request ++ [.marker code tag offset discarded]
        frame.length ≤ 510 →
        ((behind = [] ∨ ∃ l bytes, behind = l :: bytes ∧ (6 < l.toNat ∨ bytes.length < l.toNat)) → marked [])
        ∧ ∀ (tag : Tag) (bytes : List Byte), tag.length ≤ 6 → behind = BitVec.ofNat 8 tag.length :: (tag ++ bytes) →
            (requestFields code = none → marked tag)
            ∧ ((bytes.length < 2 ∨ bytes.length < 2 + beNat (bytes.take 2)) → marked tag)
            ∧ ∀ (body follows : List Byte), bytes = beBytes 2 body.length ++ body ++ follows →
                (128 ≤ header.toNat → (cs.length = 3 ∨ follows = []) → marked tag)
                ∧ (header.toNat < 128 → follows ≠ [] → marked tag)
                ∧ ∀ rules, requestFields code = some rules →
                    (∀ offset items, readItems rules body.length offset [] body = .ok items → allRequired rules items = false) →
                    marked tag

/-- The transaction bytes, and a transaction that is none of the six, which returns 0x00 and changes no queue, flag or line; and
the four transactions that read or set the link: what the port returns, what leaves a queue once its bytes have been clocked, which
owed notice moves up, which flags clear, and what the mask takes (R176, R180, R182, R183, R184). That one transaction is one
command is the model's choice, and so is the place where the returned bytes are kept (logs 7 and 8). -/
def Obligations.Transactions : Prop :=
  ∀ (s : State) (n : Nat), s.lnk.mainPower = true →
    (∀ (b : Byte) (behind : List Byte),
      (b = 0x31 → transaction (b :: behind) s = exec (.writeFrame behind) s)
      ∧ (b = 0x52 → transaction (b :: behind) s = exec (.readReply behind.length) s)
      ∧ (b = 0x4E → transaction (b :: behind) s = exec (.readNotice behind.length) s)
      ∧ (b = 0x53 → transaction (b :: behind) s = exec (.readLinkStatus behind.length) s)
      ∧ (b = 0x4D → transaction (b :: behind) s = exec (.setAttentionMask behind) s)
      ∧ (b = 0x7E → transaction (b :: behind) s = exec (.resync behind.length) s)
      ∧ (b ∉ [0x31, 0x52, 0x4E, 0x53, 0x4D, 0x7E] →
          transaction (b :: behind) s = .next { s with lnk := { s.lnk with dataOut := sent [] behind.length } }))
    ∧ transaction [] s = .next { s with lnk := { s.lnk with dataOut := [] } }
    ∧ (s.lnk.linkResetHeld = false →
    (s.lnk.replies = [] →
      exec (.readReply n) s = .next (settled s { s.lnk with dataOut := sent [0, 0, 0] n }))
    ∧ (∀ r rest, s.lnk.replies = r :: rest →
        exec (.readReply n) s =
          .next (settled s
            { s.lnk with
              dataOut := sent r.record n, replies := if r.record.length ≤ n then rest else s.lnk.replies }))
    ∧ (s.lnk.notices = [] →
        exec (.readNotice n) s = .next (settled s { s.lnk with dataOut := sent [0, 0, 0] n }))
    ∧ (∀ r rest, s.lnk.notices = r :: rest → n < r.record.length →
        exec (.readNotice n) s = .next (settled s { s.lnk with dataOut := sent r.record n }))
    ∧ (∀ r rest, s.lnk.notices = r :: rest → r.record.length ≤ n →
        exec (.readNotice n) s =
          .next (settled s
            { s.lnk with
              dataOut := sent r.record n, notices := rest ++ s.lnk.owed.take 1, owed := s.lnk.owed.drop 1 }))
    ∧ exec (.readLinkStatus n) s =
        .next (settled s
          { s.lnk with
            dataOut := sent
              (beBytes 1 s.lnk.requests.length ++ beBytes 1 s.lnk.replies.length ++ beBytes 1 s.lnk.notices.length
                ++ beBytes 2 s.lnk.owed.length
                ++ beBytes 1 (s.lnk.inboxOverrun.toNat + 2 * s.lnk.noticesLost.toNat + 4 * s.fck.clockSet.toNat
                  + 8 * s.lnk.ready.toNat + 16 * s.lnk.attn.toNat + 32 * s.lnk.alarm.toNat)
                ++ beBytes 1 s.lnk.startKind.code ++ [s.lnk.mask]) n
            inboxOverrun := s.lnk.inboxOverrun && decide (n < 6)
            noticesLost := s.lnk.noticesLost && decide (n < 6) })
    ∧ exec (.setAttentionMask []) s = .next (settled s { s.lnk with dataOut := sent [] 0 })
    ∧ ∀ b rest, exec (.setAttentionMask (b :: rest)) s =
        .next (settled s { s.lnk with mask := b, dataOut := sent [] (rest.length + 1) }))

/-- A link reset, by the line or by RESYNC: while the line is held READY is deasserted and every transaction is ignored; at its end
the link is prepared and START of kind LINK placed, and no record changes (R186). The line without main power (log 31), the bytes
returned for a transaction that is ignored (log 8), bit 7 of the mask, which no class has (log 9), and that the two counts START
does not carry are absent (log 17), are the model's choice. -/
def Obligations.LinkResets : Prop :=
  ∀ s : State,
    let reset : Lnk := { s.lnk with
      requests := [], replies := [], owed := [], mask := 0x7F, inboxOverrun := false, noticesLost := false, startKind := .link
      notices :=
        [{ notice := { kind := .start, key := 0, body := [u8 2, u32 s.fck.uptime, flag s.fck.clockSet, .absent, .absent] }
           changes := 0 }] }
    exec .linkResetAssert s = .next (settled s { s.lnk with linkResetHeld := true })
    ∧ (settled s { s.lnk with linkResetHeld := true }).lnk.ready = false
    ∧ (s.lnk.mainPower = true → s.lnk.linkResetHeld = true →
        exec .linkResetRelease s = .next (settled s { reset with linkResetHeld := false })
        ∧ ∀ bytes n,
            exec (.writeFrame bytes) s = .next { s with lnk := { s.lnk with dataOut := sent [] bytes.length } }
            ∧ exec (.setAttentionMask bytes) s = .next { s with lnk := { s.lnk with dataOut := sent [] bytes.length } }
            ∧ exec (.readReply n) s = .next { s with lnk := { s.lnk with dataOut := sent [] n } }
            ∧ exec (.readNotice n) s = .next { s with lnk := { s.lnk with dataOut := sent [] n } }
            ∧ exec (.readLinkStatus n) s = .next { s with lnk := { s.lnk with dataOut := sent [] n } }
            ∧ exec (.resync n) s = .next { s with lnk := { s.lnk with dataOut := sent [] n } })
    ∧ (s.lnk.mainPower = true → s.lnk.linkResetHeld = false →
        ∀ n, exec (.resync n) s = .next (settled s { reset with dataOut := sent [] n }))
    ∧ (s.lnk.linkResetHeld = false → exec .linkResetRelease s = .next s)

/-- A MALFORMED marker at the head is answered by LNK itself, once, with its code and tag, the offset and the bytes discarded
(R179). -/
def Obligations.MalformedMarkerAnswered : Prop :=
  ∀ (s : State) (code : Nat) (tag : Tag) (offset discarded : Nat) (rest : List Entry),
    s.lnk.requests = .marker code tag offset discarded :: rest → s.lnk.mainPower = true →
    (s.lnk.replies.length < 32 →
      exec .malformedMarker s =
        .next (settled s
          { s.lnk with
            requests := rest
            replies := s.lnk.replies
              ++ [{ code, outcome := .malformed, tag, body := [u32 offset, u32 discarded] }] }))
    ∧ (32 ≤ s.lnk.replies.length → exec .malformedMarker s = .next s)

/-- Main power rises with the retention flag set: a warm start. The link is prepared; START stands at the head of the notice queue
with the day rolls made and left unrolled; no visit stands; no release is left under way. The midnights crossed are the roll
deadline, where it has been reached, and each later value a day apart up to the current uptime (R175). A RELEASING job has left the
hold queue where its expiry has passed or its owner is RETIRING, and else is HELD with no attempt counted; the reserved points of
an account that has no job in PRINTING have fallen by the account parts of its RELEASING jobs (R23, R45, R47, R82, R185). Of the
deadlines that passed meanwhile, those the start takes: a HELD job whose expiry is taken has left the queue, a PRINTING job whose
completion window is taken is settled, any other is as it was; and a RETIRING account is FREE where every job of it in PRINTING is
so settled, and else RETIRING still (R45, R77, R82, R160). The order of the start's work, that a deadline the order leaves out is
taken by a later command (log 5), bit 7 of the mask, which no class has (log 9), the count of no midnight past the last wall time
(log 26), START's fields that do not apply and the widths of its two counts (logs 17 and 18) are the model's choice. -/
def Obligations.WarmStart : Prop :=
  ∀ (s : State) (order : List StartWork), s.lnk.mainPower = false → s.lnk.retention = true → TablesSound s.toRecords →
    let part := fun (i : Nat) (j : Job) => match j.stage with
      | .releasing g => if j.owner = i then g.accountPart else 0
      | _ => 0
    ∃ t rest, exec (.mainPowerRise order) s = .next t
      ∧ t.lnk.requests = [] ∧ t.lnk.replies = [] ∧ t.lnk.mask = 0x7F ∧ t.lnk.inboxOverrun = false
      ∧ t.lnk.startKind = .warm ∧ t.lnk.mainPower = true ∧ t.lnk.retention = true ∧ t.pending = s.pending
      ∧ t.lnk.notices =
          { notice :=
              { kind := .start, key := 0
                body := [u8 1, u32 s.fck.uptime, flag s.fck.clockSet, u32 (min (crossed s.fck) 62), u32 (crossed s.fck - 62)] }
            changes := 0 } :: rest
      ∧ ((∀ d, s.fck.roll = some d → ¬fallen s.fck.uptime d) → crossed s.fck = 0)
      ∧ (∀ d, s.fck.roll = some d → fallen s.fck.uptime d → s.fck.offset ≤ 1099511627775 → ∀ k : Nat,
          k < crossed s.fck ↔
            d.value + 86400 * k ≤ s.fck.uptime ∧ (d.value : Int) + 86400 * k + s.fck.offset ≤ 1099511627775)
      ∧ t.rlu.visits = []
      ∧ (∀ e ∈ t.hq.jobs, ∀ g, e.2.stage ≠ .releasing g)
      ∧ (∀ n j g a, s.hq.jobs.lookup n = some j → j.stage = .releasing g → s.adir.accounts.lookup j.owner = some a →
          (fallen s.fck.uptime j.expiry → t.hq.jobs.lookup n = none)
          ∧ (∀ accepted, a.state = .retiring accepted → ((∀ d, .deadline d ∉ order) ∨ RecordsAgree s.toRecords) →
              t.hq.jobs.lookup n = none)
          ∧ ((∀ accepted, a.state ≠ .retiring accepted) → ¬fallen s.fck.uptime j.expiry →
              ∃ j', t.hq.jobs.lookup n = some j' ∧ j'.stage = .held ∧ j'.attempts = j.attempts ∧ j'.owner = j.owner
                ∧ j'.expiry = j.expiry))
      ∧ (∀ i a, s.adir.accounts.lookup i = some a → (∀ accepted, a.state ≠ .retiring accepted) →
          (∀ e ∈ s.hq.jobs, e.2.owner = i → ∀ g accepted, e.2.stage ≠ .printing g accepted) →
          ∃ a', t.adir.accounts.lookup i = some a' ∧ a'.reserved = a.reserved - (s.hq.jobs.map (fun e => part i e.2)).sum)
      ∧ (RecordsAgree s.toRecords →
          let settled := fun (n : Nat) (j : Job) => ∃ g accepted d, j.stage = .printing g accepted
            ∧ .deadline (.completionWindow n) ∈ order ∧ window? s.toRecords g.printer n = some d ∧ fallen s.fck.uptime d
          (∀ n j, s.hq.jobs.lookup n = some j → j.stage = .held →
            (.deadline (.expiry n) ∈ order → fallen s.fck.uptime j.expiry → t.hq.jobs.lookup n = none)
            ∧ (.deadline (.expiry n) ∉ order ∨ ¬fallen s.fck.uptime j.expiry →
                ∃ j', t.hq.jobs.lookup n = some j' ∧ j'.stage = .held ∧ j'.attempts = j.attempts ∧ j'.owner = j.owner))
          ∧ (∀ n j g accepted, s.hq.jobs.lookup n = some j → j.stage = .printing g accepted →
              (settled n j → t.hq.jobs.lookup n = none)
              ∧ (¬settled n j → t.hq.jobs.lookup n = some j))
          ∧ ∀ i a accepted, s.adir.accounts.lookup i = some a → a.state = .retiring accepted →
              let flies := fun (n : Nat) (j : Job) => s.hq.jobs.lookup n = some j ∧ j.owner = i
                ∧ ∃ g accepted, j.stage = .printing g accepted
              ((∀ n j, flies n j → settled n j) → t.adir.accounts.lookup i = none)
              ∧ ((∃ n j, flies n j ∧ ¬settled n j) →
                  ∃ a', t.adir.accounts.lookup i = some a' ∧ a'.state = .retiring accepted))

/-- A cold start, where main power rises with the retention flag clear; main power on already, its fall, the loss of standby power,
and the passing of a second (R168, R185). What is counted without either supply, the queues while main power is off, the line
LINK_RESET held across a start, bit 7 of the mask after one, which no class has, and START's absent counts are the model's choice
(logs 23, 24, 31, 9 and 17). -/
def Obligations.ColdStartPowerAndTime : Prop :=
  ∀ s : State,
    (s.lnk.mainPower = false → s.lnk.retention = false → ∀ order,
      exec (.mainPowerRise order) s =
        .next { s with
          toRecords := State.reset.toRecords
          lnk := { State.reset.lnk with
            linkResetHeld := s.lnk.linkResetHeld, ready := !s.lnk.linkResetHeld, dataOut := s.lnk.dataOut } })
    ∧ exec .mainPowerFall s = .next (settled s { s.lnk with mainPower := false })
    ∧ exec .standbyPowerLoss s = .next { s with lnk := { s.lnk with retention := false } }
    ∧ ((s.lnk.mainPower = true ∨ s.lnk.retention = true) →
        exec .uptimeTick s = .next { s with fck := { s.fck with uptime := min (s.fck.uptime + 1) 4294967295 } })
    ∧ (s.lnk.mainPower = true → ∀ order, exec (.mainPowerRise order) s = .next s)

/-! ### Accounts, badges and pools -/

/-- ACCOUNT_OPEN accepted: the slot is filled with the clamped settings, warn high raised to warn low, the balance at the allotment
and every counter at 0; the pool gains a member; the warning is evaluated and announced if the account starts WARNED; the reply
carries the stored settings, the balance and the warn state (R3, R4, R27). And its refusals, in the order of R3: RANGE, DUPLICATE
or RETIRING for a slot that is not FREE, then the named pool's RANGE, NO_RECORD or RETIRING; a refusal changes nothing. That a
yes-or-no byte that names nothing is refused before R3's checks is the model's choice (log 29). -/
def Obligations.AccountOpened : Prop :=
  ∀ (s : State) (tag : Tag) (f : AccountOpen), Taken s (.accountOpen tag f) →
    let refused := fun o : ReplyOutcome => exec (.accountOpen tag f) s = .next (replied s 0x10 tag o [])
    ((4096 ≤ f.account ∨ 1 < f.colour) → refused .range)
    ∧ (f.account < 4096 → f.colour ≤ 1 →
        (∀ a, s.adir.accounts.lookup f.account = some a →
          ((a.state = .active ∨ a.state = .suspended) → refused .duplicate)
          ∧ ∀ accepted, a.state = .retiring accepted → refused .retiring)
        ∧ ∀ p, s.adir.accounts.lookup f.account = none → f.pool = some p →
            (64 ≤ p → refused .range)
            ∧ (p < 64 → s.adir.pools.lookup p = none → refused .noRecord)
            ∧ ∀ q, p < 64 → s.adir.pools.lookup p = some q → q.state = .retiring → refused .retiring)
    ∧ ∀ pools : Table Pool,
    f.account < 4096 → f.colour ≤ 1 → s.adir.accounts.lookup f.account = none →
    ((f.pool = none ∧ pools = s.adir.pools)
      ∨ ∃ p q, f.pool = some p ∧ p < 64 ∧ s.adir.pools.lookup p = some q ∧ q.state = .active
          ∧ pools = s.adir.pools.put p { q with members := q.members + 1 }) →
    let allotment := min f.allotment 1000000
    let overdraft := min f.overdraft 65535
    let low := min f.warnLow 2000000
    let high := max (min f.warnHigh 2000000) low
    let warned := decide (allotment + overdraft ≤ low)
    let opened : Account :=
      { state := .active, pool := f.pool, colour := f.colour == 1, allotment, overdraft, warnLow := low, warnHigh := high
        badgeCount := 0, balance := allotment, reserved := 0, warned, usedPeriod := 0, today := 0, peak := 0, liveJobs := 0
        openVisit := none, inFlight := 0 }
    exec (.accountOpen tag f) s =
      .next (answered s 0x10 tag
        { s.toRecords with adir := { s.adir with accounts := s.adir.accounts.put f.account opened, pools := pools } }
        (if warned then
          [{ kind := .quotaWarning, key := f.account
             body := [u16 f.account, u8 1, s32 (allotment + overdraft : Nat), s32 allotment] }]
        else []) .ok
        [opt u8 f.pool, flag (f.colour == 1), u32 allotment, u16 overdraft, u32 low, u32 high, s32 allotment, flag warned])

/-- ACCOUNT_SET accepted: each selected setting is clamped and stored, warn high is raised to warn low, the warning is evaluated
where the overdraft or a threshold was selected, and the reply carries the stored settings; a change of pool takes one from the
member count of the pool left and adds one to that of the pool joined, and the present pool selected touches no member count (R5,
R6, R27). And its refusals: RETIRING, and the named pool's RANGE, NO_RECORD and RETIRING and BUSY, in the order of R6. -/
def Obligations.AccountSettingsChanged : Prop :=
  ∀ (s : State) (tag : Tag) (f : AccountSet) (a : Account), Taken s (.accountSet tag f) →
    s.adir.accounts.lookup f.account = some a → f.account < 4096 → (∀ v, f.colour = some v → v ≤ 1) →
    let refused := fun o : ReplyOutcome => exec (.accountSet tag f) s = .next (replied s 0x11 tag o [])
    (∀ accepted, a.state = .retiring accepted → refused .retiring)
    ∧ (∀ p, (a.state = .active ∨ a.state = .suspended) → f.pool = some (some p) → a.pool ≠ some p →
        (64 ≤ p → refused .range)
        ∧ (p < 64 → s.adir.pools.lookup p = none → refused .noRecord)
        ∧ ∀ q, p < 64 → s.adir.pools.lookup p = some q →
            (q.state = .retiring → refused .retiring)
            ∧ (q.state = .active → 0 < a.inFlight → refused .busy))
    ∧ ((a.state = .active ∨ a.state = .suspended) → f.pool = some none → a.pool ≠ none → 0 < a.inFlight → refused .busy)
    ∧ ((a.state = .active ∨ a.state = .suspended) →
    (f.pool.getD a.pool = a.pool
      ∨ a.inFlight = 0 ∧ (f.pool.getD a.pool = none
          ∨ ∃ p q, f.pool.getD a.pool = some p ∧ p < 64 ∧ s.adir.pools.lookup p = some q ∧ q.state = .active)) →
    let low := selected 0 2000000 a.warnLow f.warnLow
    let high := max (selected 0 2000000 a.warnHigh f.warnHigh) low
    let a' : Account :=
      { a with
        pool := f.pool.getD a.pool
        colour := (f.colour.map (· == 1)).getD a.colour
        allotment := selected 0 1000000 a.allotment f.allotment
        overdraft := selected 0 65535 a.overdraft f.overdraft
        warnLow := low
        warnHigh := high }
    ∃ pools : Table Pool,
      (a'.pool = a.pool → pools = s.adir.pools)
      ∧ (a'.pool ≠ a.pool → ∀ k, pools.lookup k = (s.adir.pools.lookup k).map (fun q =>
          { q with
            members :=
              if a.pool = some k then q.members - 1 else if a'.pool = some k then q.members + 1 else q.members }))
      ∧ (let moved : Work :=
          { s.work with adir := { s.adir with accounts := s.adir.accounts.put f.account a', pools } }
        exec (.accountSet tag f) s =
          .next (worked s 0x11 tag
            (if f.overdraft.isSome ∨ f.warnLow.isSome ∨ f.warnHigh.isSome then evaluateWarning f.account moved else moved) .ok
            [opt u8 a'.pool, flag a'.colour, u32 a'.allotment, u16 a'.overdraft, u32 low, u32 high])))

/-- R27: what an evaluation of the warning does to the warn state, and which notice it raises; it changes nothing else. -/
def Obligations.WarningEvaluated : Prop :=
  ∀ (i : Nat) (w : Work) (a : Account), w.adir.accounts.lookup i = some a →
    let available : Int := a.balance - a.reserved + a.overdraft
    let turned := fun warned : Bool =>
      (w.setAccount i { a with warned }).raise .quotaWarning i [u16 i, flag warned, s32 available, s32 a.balance]
    (a.warned = false → available ≤ a.warnLow → evaluateWarning i w = turned true)
    ∧ (a.warned = false → a.warnLow < available → evaluateWarning i w = w)
    ∧ (a.warned = true → a.warnHigh ≤ available → a.warnLow < available → evaluateWarning i w = turned false)
    ∧ (a.warned = true → (available < a.warnHigh ∨ available ≤ a.warnLow) → evaluateWarning i w = w)

/-- ACCOUNT_SUSPEND of an ACTIVE account and ACCOUNT_RESUME of a SUSPENDED one. The suspension closes the account's visit with
reason ACCOUNT and announces it, where it has one; the resumption changes the state alone (R8, R9, R68, R79). In the other states
they are refused with STATE, and with RETIRING for a RETIRING account (R2, R8, R9). That VISIT_CLOSED's drain counts are absent for
an OPEN visit is the model's choice (log 17). -/
def Obligations.AccountSuspendedAndResumed : Prop :=
  ∀ (s : State) (tag : Tag) (i : Nat) (a : Account), s.adir.accounts.lookup i = some a → i < 4096 →
    (Taken s (.accountSuspend tag i) →
      (a.state = .suspended → exec (.accountSuspend tag i) s = .next (replied s 0x13 tag .state []))
      ∧ ∀ accepted, a.state = .retiring accepted → exec (.accountSuspend tag i) s = .next (replied s 0x13 tag .retiring []))
    ∧ (Taken s (.accountResume tag i) →
        (a.state = .active → exec (.accountResume tag i) s = .next (replied s 0x14 tag .state []))
        ∧ ∀ accepted, a.state = .retiring accepted → exec (.accountResume tag i) s = .next (replied s 0x14 tag .retiring []))
    ∧ (Taken s (.accountSuspend tag i) → a.state = .active →
      (a.openVisit = none →
        exec (.accountSuspend tag i) s =
          .next (worked s 0x13 tag (s.work.setAccount i { a with state := .suspended }) .ok
            [u8 a.liveJobs, u8 a.inFlight, .absent]))
      ∧ ∀ p v, a.openVisit = some p → s.rlu.visits.lookup p = some v → v.account = i →
          exec (.accountSuspend tag i) s =
            .next (worked s 0x13 tag
              (((s.work.setAccount i { a with state := .suspended, openVisit := none }).dropVisit p).raise .visitClosed p
                ([u8 p, u16 i, u8 5] ++ v.drainCounts)) .ok
              [u8 a.liveJobs, u8 a.inFlight, u8 p]))
    ∧ (Taken s (.accountResume tag i) → a.state = .suspended →
        exec (.accountResume tag i) s =
          .next (worked s 0x14 tag (s.work.setAccount i { a with state := .active }) .ok [u8 a.liveJobs]))

/-- BADGE_BIND and BADGE_UNBIND accepted: the binding joins the end of the directory or leaves it, and the account's badge count
follows (R10, R11, R12). A MISMATCH names the account that holds the code and changes nothing. And the refusals of BADGE_BIND: the
code 0 gives RANGE, as for BADGE_UNBIND, a RETIRING account RETIRING, a bound code DUPLICATE, an account with two codes or a full
directory FULL, in that order (R11). -/
def Obligations.BadgesBoundAndUnbound : Prop :=
  ∀ (s : State) (tag : Tag) (code i : Nat),
    (Taken s (.badgeBind tag 0 i) → exec (.badgeBind tag 0 i) s = .next (replied s 0x18 tag .range []))
    ∧ (Taken s (.badgeUnbind tag 0 i) → exec (.badgeUnbind tag 0 i) s = .next (replied s 0x19 tag .range []))
    ∧ ∀ a : Account, s.adir.accounts.lookup i = some a → i < 4096 → code ≠ 0 →
    (Taken s (.badgeBind tag code i) →
      let refused := fun o : ReplyOutcome => exec (.badgeBind tag code i) s = .next (replied s 0x18 tag o [])
      (∀ accepted, a.state = .retiring accepted → refused .retiring)
      ∧ ((a.state = .active ∨ a.state = .suspended) →
          ((∃ b ∈ s.adir.badges, b.code = code) → refused .duplicate)
          ∧ ((∀ b ∈ s.adir.badges, b.code ≠ code) → (2 ≤ a.badgeCount ∨ 6144 ≤ s.adir.badges.length) → refused .full)))
    ∧ (Taken s (.badgeBind tag code i) → (a.state = .active ∨ a.state = .suspended) →
      (∀ b ∈ s.adir.badges, b.code ≠ code) → a.badgeCount < 2 → s.adir.badges.length < 6144 →
      exec (.badgeBind tag code i) s =
        .next (worked s 0x18 tag
          ((s.work.setBadges (s.adir.badges ++ [{ code, account := i }])).setAccount i
            { a with badgeCount := a.badgeCount + 1 }) .ok
          [u8 (a.badgeCount + 1), u16 (s.adir.badges.length + 1)]))
    ∧ (Taken s (.badgeUnbind tag code i) → boundTo? s.toRecords code = some i →
        exec (.badgeUnbind tag code i) s =
          .next (worked s 0x19 tag
            ((s.work.setBadges (s.adir.badges.filter (fun b => b.code != code))).setAccount i
              { a with badgeCount := a.badgeCount - 1 }) .ok
            [u8 (a.badgeCount - 1)]))
    ∧ (Taken s (.badgeUnbind tag code i) → ∀ holder, boundTo? s.toRecords code = some holder → holder ≠ i →
        exec (.badgeUnbind tag code i) s = .next (replied s 0x19 tag .mismatch [u16 holder]))

/-- ACCOUNT_READ, BADGE_FIND and POOL_READ change nothing and carry the record's fields (R7, R13, R16, R19). -/
def Obligations.PeopleRead : Prop :=
  ∀ (s : State) (tag : Tag) (i : Nat),
    (∀ a, Taken s (.accountRead tag i) → i < 4096 → s.adir.accounts.lookup i = some a →
      exec (.accountRead tag i) s =
        .next (replied s 0x12 tag .ok
          [u8 a.state.code, opt u8 a.pool, flag a.colour, u32 a.allotment, u16 a.overdraft, u32 a.warnLow, u32 a.warnHigh,
            s32 a.balance, u32 a.reserved, s32 (a.balance - a.reserved + a.overdraft), flag a.warned, u32 a.usedPeriod,
            u32 a.today, u32 a.peak, u8 a.liveJobs, u8 a.inFlight, opt u8 a.openVisit, u8 a.badgeCount,
            .bytes (((s.adir.badges.filter (fun b => b.account == i)).map (·.code)).flatMap (beBytes 4))]))
    ∧ (Taken s (.badgeFind tag i) →
        (i = 0 → exec (.badgeFind tag i) s = .next (replied s 0x1A tag .range []))
        ∧ (i ≠ 0 → (∀ b ∈ s.adir.badges, b.code ≠ i) →
            exec (.badgeFind tag i) s = .next (replied s 0x1A tag .noRecord []))
        ∧ ∀ holder a, i ≠ 0 → boundTo? s.toRecords i = some holder → s.adir.accounts.lookup holder = some a →
            exec (.badgeFind tag i) s =
              .next (replied s 0x1A tag .ok [u16 holder, u8 a.state.code, u8 a.badgeCount]))
    ∧ (∀ p, Taken s (.poolRead tag i) → i < 64 → s.adir.pools.lookup i = some p →
        exec (.poolRead tag i) s =
          .next (replied s 0x1E tag .ok
            [u8 p.state.code, u32 p.allotment, u16 p.members, s32 p.balance, u32 p.reserved, u32 p.usedPeriod,
              s32 (p.balance - p.reserved)]))

/-- R15: POOL_OPEN, its checks in order and the pool it opens; and POOL_SET of a pool that is not FREE (R16). -/
def Obligations.PoolOpenedAndSet : Prop :=
  ∀ (s : State) (tag : Tag) (i n : Nat),
    (Taken s (.poolOpen tag i n) →
      (64 ≤ i → exec (.poolOpen tag i n) s = .next (replied s 0x1C tag .range []))
      ∧ (∀ p, i < 64 → s.adir.pools.lookup i = some p →
          (p.state = .active → exec (.poolOpen tag i n) s = .next (replied s 0x1C tag .duplicate []))
          ∧ (p.state = .retiring → exec (.poolOpen tag i n) s = .next (replied s 0x1C tag .retiring [])))
      ∧ (i < 64 → s.adir.pools.lookup i = none →
          exec (.poolOpen tag i n) s =
            .next (worked s 0x1C tag
              (s.work.setPool i
                { state := .active, allotment := min n 1000000, members := 0, balance := (min n 1000000 : Nat)
                  reserved := 0, usedPeriod := 0 }) .ok
              [u32 (min n 1000000), s32 (min n 1000000 : Nat)])))
    ∧ ∀ p, Taken s (.poolSet tag i n) → i < 64 → s.adir.pools.lookup i = some p →
        exec (.poolSet tag i n) s =
          .next (worked s 0x1D tag (s.work.setPool i { p with allotment := min n 1000000 }) .ok [u32 (min n 1000000)])

/-- The requests that act on a standing account, pool, printer or supply type: an index out of range is refused with RANGE, and a
FREE record with NO_RECORD; the records stay as they are and no notice is raised. Where a request carries a yes-or-no byte, a
condition set or another value that is checked first, that value is in its range. BADGE_PRESENTED, whose refusals carry the
account, has a statement of its own. That the number of a JOB_SUBMIT's target of kind ANY is not checked is the model's choice (log
36). -/
def Obligations.UnknownRecordsRefused : Prop :=
  ∀ (s : State) (tag : Tag) (i k : Nat) (amount : Int) (f : SupplySettings) (c : Instr) (code : Nat),
    c.request? = some (code, tag) → Taken s c →
    let range := exec c s = .next (replied s code tag .range [])
    let noRecord := exec c s = .next (replied s code tag .noRecord [])
    let noAccount := fun i : Nat => (4096 ≤ i → range) ∧ (i < 4096 → s.adir.accounts.lookup i = none → noRecord)
    let noPrinter := fun i : Nat => (96 ≤ i → range) ∧ (i < 96 → s.ptb.printers.lookup i = none → noRecord)
    (c ∈ [.accountRead tag i, .accountSuspend tag i, .accountResume tag i, .accountCredit tag i amount, .peakClear tag i,
        .accountRetire tag i, .jobList tag i k] → noAccount i)
    ∧ (∀ a : AccountSet, c = .accountSet tag a → (∀ v, a.colour = some v → v ≤ 1) → noAccount a.account)
    ∧ (k ≠ 0 → c = .badgeBind tag k i → noAccount i)
    ∧ (k ≠ 0 → c = .badgeUnbind tag k i →
        (4096 ≤ i → range) ∧ (i < 4096 → boundTo? s.toRecords k = none → noRecord))
    ∧ (∀ j : JobSubmit, c = .jobSubmit tag j →
        (4096 ≤ j.owner → range)
        ∧ (j.targetKind = 2 → 96 ≤ j.targetNumber → range)
        ∧ (j.owner < 4096 → j.duplex ≤ 1 → j.size ≤ 2 → (0 < j.mono ∨ 0 < j.colour) →
            (j.targetKind = 0 ∨ j.targetKind = 1 ∧ j.targetNumber < 128 ∨ j.targetKind = 2 ∧ j.targetNumber < 96) →
            (s.adir.accounts.lookup j.owner = none → noRecord)
            ∧ ∀ a, s.adir.accounts.lookup j.owner = some a → a.state = .active → (0 < j.colour → a.colour = true) →
                j.targetKind = 2 → s.ptb.printers.lookup j.targetNumber = none → noRecord))
    ∧ (c ∈ [.poolRetire tag i, .poolSet tag i k, .poolRead tag i, .poolCredit tag i amount] →
        (64 ≤ i → range) ∧ (i < 64 → s.adir.pools.lookup i = none → noRecord))
    ∧ (c ∈ [.next tag i, .previous tag i, .select tag i, .selectAll tag i, .delete tag i, .done tag i, .visitRead tag i,
          .printerRead tag i, .serviceWithdraw tag i, .serviceReturn tag i, .printerRetire tag i, .printerReseat tag i] →
        noPrinter i)
    ∧ (∀ q : PrinterSet, c = .printerSet tag q →
        (∀ b, b ∈ q.colour.toList ++ q.duplex.toList ++ q.largeTray.toList ++ q.autoReturn.toList
          ++ q.restartPermitted.toList → b ≤ 1) → noPrinter q.printer)
    ∧ (∀ readings, k < 128 → c = .statusReport tag i k readings → noPrinter i)
    ∧ (k < 128 → c = .conditionsClear tag i k → noPrinter i)
    ∧ (k ≤ 3 → c = .cartridgeRead tag i k → noPrinter i)
    ∧ (∀ letter l, slotLetter? letter = some l → c = .cartridgeInstall tag i letter k →
        (96 ≤ i ∨ 32 ≤ k → range)
        ∧ (i < 96 → k < 32 → s.ptb.printers.lookup i = none → noRecord)
        ∧ ∀ q, i < 96 → k < 32 → s.ptb.printers.lookup i = some q → (∀ accepted, q.state ≠ .retiring accepted) →
            (l = .k ∨ q.slotCount = 4) → s.spu.types.lookup k = none → noRecord)
    ∧ (c ∈ [.supplySet tag i f, .supplyRead tag i, .supplyRetire tag i, .orderPlaced tag i k, .deliveryReceived tag i k,
          .stockAdjust tag i k] →
        (32 ≤ i → range) ∧ (i < 32 → s.spu.types.lookup i = none → noRecord))

/-! ### Quota -/

/-- ACCOUNT_CREDIT, POOL_CREDIT and PEAK_CLEAR: their checks, what each changes and what its reply carries (R29, R30, R32). -/
def Obligations.CreditsAndPeak : Prop :=
  (∀ (s : State) (tag : Tag) (i : Nat) (amount : Int), Taken s (.accountCredit tag i amount) →
     (4096 ≤ i → exec (.accountCredit tag i amount) s = .next (replied s 0x15 tag .range []))
     ∧ (i < 4096 → s.adir.accounts.lookup i = none →
         exec (.accountCredit tag i amount) s = .next (replied s 0x15 tag .noRecord []))
     ∧ ∀ a, i < 4096 → s.adir.accounts.lookup i = some a →
         let balance : Int := max (-1048575) (min 2000000 (a.balance + amount))
         let a' := { a with balance }
         exec (.accountCredit tag i amount) s =
           .next (worked s 0x15 tag (evaluateWarning i (s.work.setAccount i a')) .ok
             [s32 (balance - a.balance), s32 balance, s32 (balance - a.reserved + a.overdraft), flag (warnStateAfter a')]))
  ∧ ∀ (s : State) (tag : Tag) (i : Nat) (amount : Int),
      (Taken s (.poolCredit tag i amount) →
        (64 ≤ i → exec (.poolCredit tag i amount) s = .next (replied s 0x1F tag .range []))
        ∧ (i < 64 → s.adir.pools.lookup i = none →
            exec (.poolCredit tag i amount) s = .next (replied s 0x1F tag .noRecord []))
        ∧ ∀ p, i < 64 → s.adir.pools.lookup i = some p →
            let balance : Int := max (-1048575) (min 2000000 (p.balance + amount))
            exec (.poolCredit tag i amount) s =
              .next (worked s 0x1F tag (s.work.setPool i { p with balance }) .ok
                [s32 (balance - p.balance), s32 balance, s32 (balance - p.reserved)]))
      ∧ (Taken s (.peakClear tag i) →
          (4096 ≤ i → exec (.peakClear tag i) s = .next (replied s 0x16 tag .range []))
          ∧ (i < 4096 → s.adir.accounts.lookup i = none →
              exec (.peakClear tag i) s = .next (replied s 0x16 tag .noRecord []))
          ∧ ∀ a, i < 4096 → s.adir.accounts.lookup i = some a →
              exec (.peakClear tag i) s =
                .next (worked s 0x16 tag (s.work.setAccount i { a with peak := 0 }) .ok [u32 a.peak]))

/-- R24: how a settlement divides the actual charge between account and pool. -/
def Obligations.SettlementDivided : Prop :=
  ∀ (g : Grant) (a : Nat),
    let r := g.accountPart + g.poolPart
    (a ≤ r → (settledParts g a).2 = g.poolPart - (r - a)
      ∧ (settledParts g a).1 = g.accountPart - ((r - a) - min g.poolPart (r - a)))
    ∧ (r < a → (settledParts g a).2 = g.poolPart ∧ (settledParts g a).1 = g.accountPart + (a - r))
    ∧ (settledParts g a).1 + (settledParts g a).2 = a
    ∧ (settledParts g a).2 ≤ g.poolPart
    ∧ (a = r → settledParts g a = (g.accountPart, g.poolPart))

/-- R21: what a reservation asks of the account and of its pool, when it fails and with which shortfall, and what a reservation
that succeeds does to the reserved totals before the warning is evaluated (R27). -/
def Obligations.ReservationAsked : Prop :=
  ∀ (w : Work) (j : Job) (a : Account), w.adir.accounts.lookup j.owner = some a →
    let c := charge w.qtu j.mono j.colour j.size
    let available : Int := a.balance - a.reserved + a.overdraft
    let part := (max 0 (min (c : Int) available)).toNat
    let raised := w.setAccount j.owner { a with reserved := a.reserved + part }
    let quarters := (j.mono * w.qtu.monoWeight + j.colour * w.qtu.colourWeight) * j.size.quarters
    (quarters ≤ 4 * c ∧ 4 * c < quarters + 4)
    ∧ (c = part → askReservation w.toRecords j = .parts part 0)
    ∧ (part < c → a.pool = none → askReservation w.toRecords j = .short c (c - part : Nat))
    ∧ (∀ p q, part < c → a.pool = some p → w.adir.pools.lookup p = some q →
        let poolAvailable : Int := q.balance - q.reserved
        ((c - part : Nat) ≤ poolAvailable → askReservation w.toRecords j = .parts part (c - part))
        ∧ (poolAvailable < (c - part : Nat) →
            askReservation w.toRecords j = .short c ((c - part : Nat) - poolAvailable)))
    ∧ (∀ p q poolPart, a.pool = some p → w.adir.pools.lookup p = some q →
        reserve j.owner part poolPart w =
          evaluateWarning j.owner (raised.setPool p { q with reserved := q.reserved + poolPart }))
    ∧ (a.pool = none → reserve j.owner part 0 w = evaluateWarning j.owner raised)

/-- The six configuration requests, QUOTA_CONFIG, HOLD_CONFIG, RELEASE_CONFIG, HEALTH_CONFIG, SUPPLY_CONFIG and CALLOUT_CONFIG:
each selected value is clamped and stored, an unselected one keeps its value, and the reply carries what is stored; the last
evaluates the alarm condition (R20, R54, R80, R103, R120, R152, R154). The two-byte count of live jobs in HOLD_CONFIG's reply is
the model's choice (log 18). -/
def Obligations.SettingsChanged : Prop :=
  ∀ (s : State) (tag : Tag),
    (∀ mono colour period, Taken s (.quotaConfig tag mono colour period) →
      let q : Qtu :=
        { monoWeight := selected 1 15 s.qtu.monoWeight mono, colourWeight := selected 1 63 s.qtu.colourWeight colour
          periodLength := selected 1 62 s.qtu.periodLength period }
      exec (.quotaConfig tag mono colour period) s =
        .next (answered s 0x20 tag { s.toRecords with qtu := q } [] .ok
          [u8 q.monoWeight, u8 q.colourWeight, u8 q.periodLength, u8 s.fck.countdown, u16 s.fck.dayIndex]))
    ∧ (∀ hours, Taken s (.holdConfig tag hours) →
        let h := selected 1 168 s.hq.holdHours hours
        exec (.holdConfig tag hours) s =
          .next (answered s 0x2C tag { s.toRecords with hq := { s.hq with holdHours := h } } [] .ok
            [u8 h, u16 s.hq.jobs.length, u16 s.hq.lastJob]))
    ∧ (∀ f, Taken s (.releaseConfig tag f) →
        let r : Rlu := { s.rlu with
          idleTimeout := selected 10 300 s.rlu.idleTimeout f.idleTimeout
          grantWindow := selected 30 900 s.rlu.grantWindow f.grantWindow
          completionWindow := selected 300 86400 s.rlu.completionWindow f.completionWindow
          maxAttempts := selected 1 5 s.rlu.maxAttempts f.maxAttempts }
        exec (.releaseConfig tag f) s =
          .next (answered s 0x36 tag { s.toRecords with rlu := r } [] .ok
            [u16 r.idleTimeout, u16 r.grantWindow, u32 r.completionWindow, u8 r.maxAttempts, u32 s.rlu.lastGrant]))
    ∧ (∀ f, Taken s (.healthConfig tag f) →
      let p : Ptb := { s.ptb with
        paperOut := selected 0 3600 s.ptb.paperOut f.paperOut
        paperJam := selected 0 3600 s.ptb.paperJam f.paperJam
        doorOpen := selected 0 3600 s.ptb.doorOpen f.doorOpen
        fuser := selected 0 3600 s.ptb.fuser f.fuser
        engine := selected 0 3600 s.ptb.engine f.engine
        offline := selected 0 3600 s.ptb.offline f.offline
        restartWindow := selected 120 1800 s.ptb.restartWindow f.restartWindow
        absenceDelay := selected 60 86400 s.ptb.absenceDelay f.absenceDelay }
      exec (.healthConfig tag f) s =
        .next (answered s 0x47 tag { s.toRecords with ptb := p } [] .ok
          [u16 p.paperOut, u16 p.paperJam, u16 p.doorOpen, u16 p.fuser, u16 p.engine, u16 p.offline, u16 p.restartWindow,
            u32 p.absenceDelay]))
    ∧ (∀ shift, Taken s (.supplyConfig tag shift) →
        let k := selected 1 4 s.spu.shift shift
        exec (.supplyConfig tag shift) s =
          .next (answered s 0x53 tag { s.toRecords with spu := { s.spu with shift := k } } [] .ok [u8 k]))
    ∧ (∀ f, Taken s (.calloutConfig tag f) →
        let level := selected 0 4 s.cou.alarmLevel f.alarmLevel
        let c : Cou := { s.cou with
          ack0 := selected 300 86400 s.cou.ack0 f.ack0
          ack1 := selected 300 86400 s.cou.ack1 f.ack1
          ack2 := selected 300 86400 s.cou.ack2 f.ack2
          ack3 := selected 300 86400 s.cou.ack3 f.ack3
          workTime := selected 1800 172800 s.cou.workTime f.workTime
          alarmLevel := level
          alarm := decide (level < 4 ∧ ∃ t ∈ s.cou.tickets, level ≤ t.level) }
        exec (.calloutConfig tag f) s =
          .next (answered s 0x64 tag { s.toRecords with cou := c } [] .ok
            [u32 c.ack0, u32 c.ack1, u32 c.ack2, u32 c.ack3, u32 c.workTime, u8 level, u32 s.cou.lastTicket, flag c.alarm]))

/-! ### The hold queue -/

/-- JOB_SUBMIT that passes its checks: with room, the job takes the next free number and joins the table, its owner's list and the
owner's live jobs, HELD, with its expiry armed, and RLU is told of it; at 32 live jobs the owner's oldest HELD job is displaced
first; without either it is refused with FULL (R39, R41, R42, R43, R63). The number is the next after the last one issued, each
number a live job holds passed over (R39). And the checks of R41, in order: RANGE, the owner's STATE or RETIRING, NOT_PERMITTED,
the target's RETIRING. That the number byte of a target of kind ANY is not checked, and that a duplex byte that names nothing is
refused with RANGE at once, are the model's choice (logs 36 and 29). -/
def Obligations.JobSubmitted : Prop :=
  ∀ (s : State) (tag : Tag) (f : JobSubmit), Taken s (.jobSubmit tag f) →
    let refused := fun o : ReplyOutcome => exec (.jobSubmit tag f) s = .next (replied s 0x28 tag o [])
    ((1 < f.duplex ∨ 2 < f.size ∨ 2 < f.targetKind ∨ (f.targetKind = 1 ∧ 128 ≤ f.targetNumber) ∨ (f.mono = 0 ∧ f.colour = 0)) →
      refused .range)
    ∧ ∀ (size : SizeClass) (target : Target) (a : Account),
    f.owner < 4096 → f.duplex ≤ 1 → sizeClass? f.size = some size →
    target? f.targetKind f.targetNumber = some target → (0 < f.mono ∨ 0 < f.colour) →
    s.adir.accounts.lookup f.owner = some a →
    (a.state = .suspended → refused .state)
    ∧ (∀ accepted, a.state = .retiring accepted → refused .retiring)
    ∧ (a.state = .active → 0 < f.colour → a.colour = false → refused .notPermitted)
    ∧ (∀ p q accepted, a.state = .active → (0 < f.colour → a.colour = true) → target = .printer p →
        s.ptb.printers.lookup p = some q → q.state = .retiring accepted → refused .retiring)
    ∧ (a.state = .active → (0 < f.colour → a.colour = true) →
    (∀ p, target = .printer p → ∃ q, s.ptb.printers.lookup p = some q ∧ ∀ accepted, q.state ≠ .retiring accepted) →
    let list := s.hq.lists.list f.owner
    let j : Job :=
      { owner := f.owner, stage := .held, submitted := s.fck.uptime, expiry := armed s.fck.uptime (s.hq.holdHours * 3600)
        mono := f.mono, colour := f.colour, size, duplex := f.duplex == 1, target, reroutedFrom := none, attempts := 0 }
    let n := nextJob s.toRecords
    (list.length < 32 → s.hq.jobs.length < 2048 →
      exec (.jobSubmit tag f) s =
        .next (worked s 0x28 tag (enterJob n j s.work) .ok
          [u16 n, u32 j.expiry.value, u8 (a.liveJobs + 1), .absent])
      ∧ 1 ≤ n ∧ n ≤ 65535 ∧ s.hq.jobs.lookup n = none ∧ nextNumber 65535 (s.hq.jobs.map (·.1)) s.hq.lastJob n
      ∧ (enterJob n j s.work).hq =
          { s.hq with jobs := s.hq.jobs.put n j, lists := s.hq.lists.put f.owner (list ++ [n]), lastJob := n }
      ∧ (enterJob n j s.work).adir =
          { s.adir with accounts := s.adir.accounts.put f.owner { a with liveJobs := a.liveJobs + 1 } })
    ∧ (list.length < 32 → 2048 ≤ s.hq.jobs.length →
        exec (.jobSubmit tag f) s = .next (replied s 0x28 tag .full []))
    ∧ (32 ≤ list.length → (∀ n ∈ list, isHeld s.toRecords n = false) →
        exec (.jobSubmit tag f) s = .next (replied s 0x28 tag .full []))
    ∧ ∀ before oldest after, 32 ≤ list.length → list = before ++ oldest :: after →
        (∀ n ∈ before, isHeld s.toRecords n = false) → isHeld s.toRecords oldest = true →
        let w := removeJob oldest .displaced 0 s.work
        let w' := enterJob (nextJob w.toRecords) j w
        exec (.jobSubmit tag f) s =
          .next (worked s 0x28 tag w' .ok
            [u16 (nextJob w.toRecords), u32 j.expiry.value, u8 (liveCount w'.toRecords f.owner), u16 oldest])
        ∧ (s.hq.jobs.length ≤ 2048 →
            nextNumber 65535 ((s.hq.jobs.map (·.1)).filter (· != oldest)) s.hq.lastJob (nextJob w.toRecords)))

/-- JOB_CANCEL: a HELD job is removed; a RELEASING one has its reservation refunded and leaves its in-flight list before it is
removed; a PRINTING one is refused. And what a removal of a job is, and what it does to a visit of its owner: an OPEN menu that
held the job is refilled, another counts its more afresh, a drain list drops it and ends the drain when empty (R44, R46, R62, R71).
A job number or an account out of range is refused with RANGE, and a number that no live job holds with NO_RECORD (R46). That the
owner's retirement completes before the printer's, that the menu is refilled once the job is gone, and that the two parts of a
reservation are absent for a HELD job, are the model's choice (logs 11, 14 and 17). -/
def Obligations.JobCancelled : Prop :=
  (∀ (s : State) (tag : Tag) (n i : Nat), Taken s (.jobCancel tag n i) →
    ((n = 0 ∨ 65535 < n ∨ 4096 ≤ i) → exec (.jobCancel tag n i) s = .next (replied s 0x29 tag .range []))
    ∧ (1 ≤ n → n ≤ 65535 → i < 4096 → s.hq.jobs.lookup n = none →
        exec (.jobCancel tag n i) s = .next (replied s 0x29 tag .noRecord [])))
  ∧ ∀ (s : State) (tag : Tag) (n i : Nat) (j : Job), s.hq.jobs.lookup n = some j → 1 ≤ n → n ≤ 65535 → i < 4096 →
    (Taken s (.jobCancel tag n i) →
      (j.owner ≠ i → exec (.jobCancel tag n i) s = .next (replied s 0x29 tag .mismatch []))
      ∧ (j.owner = i → j.stage = .held →
          exec (.jobCancel tag n i) s =
            .next (worked s 0x29 tag (removeJob n .cancelled 0 s.work) .ok [u8 0, .absent, .absent]))
      ∧ (∀ g, j.owner = i → j.stage = .releasing g →
          exec (.jobCancel tag n i) s =
            .next (worked s 0x29 tag
              (completePrinter g.printer (completeAccount i
                (removeJob n .cancelled 1 (leaveFlight g.printer n i (refund i g s.work))))) .ok
              [u8 1, u32 g.accountPart, u32 g.poolPart]))
      ∧ (∀ g accepted, j.owner = i → j.stage = .printing g accepted →
          exec (.jobCancel tag n i) s = .next (replied s 0x29 tag .state [])))
    ∧ (∀ reason left a, s.adir.accounts.lookup j.owner = some a →
        let gone := ((s.work.setJobList j.owner ((s.hq.lists.list j.owner).erase n)).setAccount j.owner
          { a with liveJobs := a.liveJobs - 1 }).dropJob n
        let announced := fun w : Work =>
          w.raise .jobRemoved n [u16 n, u16 j.owner, u8 reason.code, u8 left, u8 j.attempts]
        removeJob n reason left s.work = announced (visitAfterLeaving n j.owner gone)
        ∧ (a.openVisit = none → removeJob n reason left s.work = announced gone))
    ∧ ∀ (w : Work) (a : Account) (p : Nat), w.adir.accounts.lookup i = some a → a.openVisit = some p →
        (∀ v, w.rlu.visits.lookup p = some (.opened v) → n ∈ v.menu →
          visitAfterLeaving n i w = w.setVisit p (.opened (leaveMenu w.toRecords p n v)))
        ∧ (∀ v, w.rlu.visits.lookup p = some (.opened v) → n ∉ v.menu →
            visitAfterLeaving n i w =
              w.setVisit p (.opened
                { v with
                  more := ((eligibleJobs w.toRecords p v.account).filter (fun k => !v.menu.contains k)).length }))
        ∧ ∀ d, w.rlu.visits.lookup p = some (.draining d) →
            let left := w.setVisit p (.draining { d with jobs := d.jobs.erase n })
            (n ∉ d.jobs → visitAfterLeaving n i w = w)
            ∧ (n ∈ d.jobs → d.jobs.erase n ≠ [] → visitAfterLeaving n i w = left)
            ∧ (n ∈ d.jobs → d.jobs.erase n = [] → visitAfterLeaving n i w = closeVisit p .drained left)

/-- JOB_READ and JOB_LIST: the fields of the record, those absent that the job's state does not make present (R48, R49). How such
fields are laid out, and the widths of counts, are the model's choice (logs 17 and 18). -/
def Obligations.JobsRead : Prop :=
  (∀ (s : State) (tag : Tag) (n : Nat), Taken s (.jobRead tag n) →
     (n = 0 → exec (.jobRead tag n) s = .next (replied s 0x2A tag .range []))
     ∧ (n ≠ 0 → s.hq.jobs.lookup n = none → exec (.jobRead tag n) s = .next (replied s 0x2A tag .noRecord []))
     ∧ ∀ j a, n ≠ 0 → s.hq.jobs.lookup n = some j → s.adir.accounts.lookup j.owner = some a →
         let common := [u16 n, u16 j.owner, u8 j.stage.code, u32 j.submitted, u32 j.expiry.value, u16 j.mono, u16 j.colour,
           u8 j.size.code, flag j.duplex, compound (targetParts j.target), opt u8 j.reroutedFrom, u8 j.attempts]
         let granted := fun g : Grant =>
           [u8 g.printer, u32 g.number, .bytes (beBytes 4 g.accountPart ++ beBytes 4 g.poolPart)]
         (j.stage = .held →
           exec (.jobRead tag n) s =
             .next (replied s 0x2A tag .ok (common ++ [.absent, .absent, .absent, .absent, u8 a.state.code])))
         ∧ (∀ g, j.stage = .releasing g →
             exec (.jobRead tag n) s =
               .next (replied s 0x2A tag .ok (common ++ granted g ++ [.absent, u8 a.state.code])))
         ∧ ∀ g accepted, j.stage = .printing g accepted →
             exec (.jobRead tag n) s =
               .next (replied s 0x2A tag .ok (common ++ granted g ++ [u32 accepted, u8 a.state.code])))
  ∧ ∀ (s : State) (tag : Tag) (i position : Nat), Taken s (.jobList tag i position) →
      (4096 ≤ i → exec (.jobList tag i position) s = .next (replied s 0x2B tag .range []))
      ∧ (i < 4096 → s.adir.accounts.lookup i = none →
          exec (.jobList tag i position) s = .next (replied s 0x2B tag .noRecord []))
      ∧ ∀ a (jobs : List (Nat × Job)), i < 4096 → s.adir.accounts.lookup i = some a →
          jobs.map (·.1) = ((s.hq.lists.list i).drop position).take 4 →
          (∀ e ∈ jobs, s.hq.jobs.lookup e.1 = some e.2) →
          let entry := fun e : Nat × Job =>
            beBytes 2 e.1 ++ beBytes 1 e.2.stage.code ++ beBytes 1 e.2.size.code ++ beBytes 2 e.2.mono ++ beBytes 2 e.2.colour
              ++ (targetParts e.2.target).flatMap Field.encode ++ beBytes 4 e.2.expiry.value
          exec (.jobList tag i position) s =
            .next (replied s 0x2B tag .ok [u8 a.liveJobs, .bytes (jobs.flatMap entry), u16 (position + jobs.length)])

/-- A job's expiry falls due, and the idle deadline of a visit: the HELD job is removed with reason EXPIRED, the OPEN visit is
closed with reason TIMEOUT; otherwise nothing comes of it (R45, R68, R168). That an event whose time has not come does nothing is
the model's choice (logs 1 and 4), and so is that VISIT_CLOSED's drain counts are absent for an OPEN visit (log 17). -/
def Obligations.ExpiryAndIdleDeadlines : Prop :=
  ∀ s : State, s.lnk.mainPower = true →
    (∀ n j, s.hq.jobs.lookup n = some j →
      (j.stage = .held → fallen s.fck.uptime j.expiry →
        exec (.expiryDeadline n) s = .next (passed s (removeJob n .expired 0 s.work)))
      ∧ ((j.stage ≠ .held ∨ ¬fallen s.fck.uptime j.expiry) → exec (.expiryDeadline n) s = .next (passed s s.work)))
    ∧ ∀ p v a, s.rlu.visits.lookup p = some (.opened v) → s.adir.accounts.lookup v.account = some a →
        (fallen s.fck.uptime v.idle →
          exec (.idleDeadline p) s =
            .next (passed s
              (((s.work.dropVisit p).setAccount v.account { a with openVisit := none }).raise .visitClosed p
                [u8 p, u16 v.account, u8 1, .absent, .absent])))
        ∧ (¬fallen s.fck.uptime v.idle → exec (.idleDeadline p) s = .next (passed s s.work))

/-! ### Release terminals and grants -/

/-- BADGE_PRESENTED: its checks in order, each with what its refusal carries; the visits in its way are closed with TAKEN, and a
menu of the account's first 8 eligible jobs opens; with none eligible the reply is NO_JOBS. And which visits stand in its way: an
OPEN visit of the account at another terminal, and one of another account at this one (R59, R60, R61, R68). The order of two such
notices, the account's other terminal before this one, which R60 does not give, the absent drain counts of VISIT_CLOSED for an OPEN
visit, and the widths of the counts in the replies are the model's choice (logs 11, 17 and 18). -/
def Obligations.BadgePresented : Prop :=
  (∀ (s : State) (tag : Tag) (p code : Nat), Taken s (.badgePresented tag p code) →
    let refused := fun (o : ReplyOutcome) (body : List Field) =>
      exec (.badgePresented tag p code) s = .next (replied s 0x30 tag o body)
    ((∀ b ∈ s.adir.badges, b.code ≠ code) → refused .noRecord [])
    ∧ ∀ i a, boundTo? s.toRecords code = some i → s.adir.accounts.lookup i = some a →
        (a.state = .suspended → refused .state [u16 i])
        ∧ (∀ accepted, a.state = .retiring accepted → refused .retiring [u16 i])
        ∧ (a.state = .active →
            (96 ≤ p → refused .range [u16 i])
            ∧ (p < 96 → s.ptb.printers.lookup p = none → refused .noRecord [u16 i])
            ∧ ∀ q, p < 96 → s.ptb.printers.lookup p = some q →
                (∀ accepted, q.state = .retiring accepted → refused .retiring [u16 i])
                ∧ (q.state ≠ .inService → (∀ accepted, q.state ≠ .retiring accepted) →
                    refused .service [u16 i, u8 q.state.code])
                ∧ (q.state = .inService →
                    (draining s.toRecords p = true → refused .busy [u16 i])
                    ∧ (∀ k, a.openVisit = some k → draining s.toRecords k = true → refused .busy [u16 i])
                    ∧ (draining s.toRecords p = false → (∀ k, a.openVisit = some k → draining s.toRecords k = false) →
                        let w := clearTheWay p i s.work
                        let found := eligibleJobs s.toRecords p i
                        let idle := armed s.fck.uptime s.rlu.idleTimeout
                        (found ≠ [] →
                          exec (.badgePresented tag p code) s =
                            .next (worked s 0x30 tag
                              ((w.setVisit p (.opened
                                { account := i, menu := found.take 8, more := found.length - 8, cursor := 0, idle })).setAccount
                                i { a with openVisit := some p }) .ok
                              [u16 i, s32 (a.balance - a.reserved + a.overdraft), flag a.warned,
                                listField (menuEntry s.toRecords) (found.take 8), u8 (found.length - 8), u8 0,
                                u32 idle.value]))
                        ∧ (found = [] →
                            exec (.badgePresented tag p code) s =
                              .next (worked s 0x30 tag (closeVisit p .taken w) .noJobs
                                [u16 i, u32 ((s.hq.lists.list i).filter (isHeld s.toRecords)).length,
                                  u32 ((s.hq.lists.list i).filter (waitsForSupply s.toRecords p)).length]))))))
  ∧ ∀ (w : Work) (p i : Nat) (a : Account), w.adir.accounts.lookup i = some a →
      let taken := fun (at_ owner : Nat) (o : Account) (w : Work) =>
        ((w.dropVisit at_).setAccount owner { o with openVisit := none }).raise .visitClosed at_
          [u8 at_, u16 owner, u8 2, .absent, .absent]
      (w.rlu.visits.lookup p = none → a.openVisit = none → clearTheWay p i w = w)
      ∧ (∀ v, w.rlu.visits.lookup p = some v → v.account = i → (a.openVisit = none ∨ a.openVisit = some p) →
          clearTheWay p i w = w)
      ∧ (∀ v b, w.rlu.visits.lookup p = some (.opened v) → v.account ≠ i → w.adir.accounts.lookup v.account = some b →
          a.openVisit = none → clearTheWay p i w = taken p v.account b w)
      ∧ ∀ k u, a.openVisit = some k → k ≠ p → w.rlu.visits.lookup k = some (.opened u) → u.account = i →
          (w.rlu.visits.lookup p = none → clearTheWay p i w = taken k i a w)
          ∧ ∀ v b, w.rlu.visits.lookup p = some (.opened v) → v.account ≠ i → w.adir.accounts.lookup v.account = some b →
              clearTheWay p i w = taken p v.account b (taken k i a w)

/-- NEXT and PREVIOUS move the cursor of an OPEN visit, around its ends, and refresh the idle deadline; no visit is STATE, a drain
BUSY (R64, R65). That the reply's fields are laid out visit state first, with the menu one list, is the model's choice (log 17). -/
def Obligations.CursorMoved : Prop :=
  ∀ (s : State) (tag : Tag) (p : Nat) (q : Printer), p < 96 → s.ptb.printers.lookup p = some q →
    let moved := fun (v : OpenVisit) (cursor : Nat) =>
      worked s 0x31 tag
        (s.work.setVisit p (.opened { v with cursor, idle := armed s.fck.uptime s.rlu.idleTimeout })) .ok
        [u8 1, listField (fun n => [u16 n]) v.menu, u8 cursor, u8 v.more,
          u32 (armed s.fck.uptime s.rlu.idleTimeout).value]
    (Taken s (.next tag p) →
      (∀ v, s.rlu.visits.lookup p = some (.opened v) →
        (v.cursor + 1 < v.menu.length → exec (.next tag p) s = .next (moved v (v.cursor + 1)))
        ∧ (v.menu.length ≤ v.cursor + 1 → exec (.next tag p) s = .next (moved v 0)))
      ∧ (s.rlu.visits.lookup p = none → exec (.next tag p) s = .next (replied s 0x31 tag .state []))
      ∧ ∀ d, s.rlu.visits.lookup p = some (.draining d) → exec (.next tag p) s = .next (replied s 0x31 tag .busy []))
    ∧ (Taken s (.previous tag p) →
        (∀ v, s.rlu.visits.lookup p = some (.opened v) →
          (v.cursor = 0 → exec (.previous tag p) s = .next (moved v (v.menu.length - 1)))
          ∧ (v.cursor ≠ 0 → exec (.previous tag p) s = .next (moved v (v.cursor - 1))))
        ∧ (s.rlu.visits.lookup p = none → exec (.previous tag p) s = .next (replied s 0x31 tag .state []))
        ∧ ∀ d, s.rlu.visits.lookup p = some (.draining d) →
            exec (.previous tag p) s = .next (replied s 0x31 tag .busy []))

/-- SELECT: the job at the cursor is checked in order and granted. The grant takes the next grant number, makes the job RELEASING
with its reservation, and joins the printer's in-flight list with its window; the printer's and the owner's in-flight counts rise
by 1, the reserved points of the account and of its pool by their parts, and the warning is evaluated; the job leaves the menu. A
failed check gives its outcome, and an empty menu NO_JOBS. And what an entry's leaving does to a menu: the cursor, the refill with
the first eligible job in submission order, and the more count; and which job is eligible, with the class of the first test it
fails (R21, R27, R58, R62, R64, R66, R67). The reply's layout, the visit's fields first and the key's own behind them, is the
model's choice (log 17). -/
def Obligations.Selected : Prop :=
  (∀ (s : State) (tag : Tag) (p : Nat) (q : Printer) (v : OpenVisit), Taken s (.select tag p) → p < 96 →
    s.ptb.printers.lookup p = some q → s.rlu.visits.lookup p = some (.opened v) →
    let stays := refreshIdle p s.work
    let number := if s.rlu.lastGrant < 4294967295 then s.rlu.lastGrant + 1 else 1
    (v.menu = [] → exec (.select tag p) s = .next (worked s 0x31 tag stays .noJobs (visitFields stays.toRecords p)))
    ∧ ∀ n j, v.menu[v.cursor]? = some n → s.hq.jobs.lookup n = some j →
    (∀ failure, failure? s.toRecords p j = some failure →
      let w := refreshIdle p (s.work.setVisit p (.opened (leaveMenu s.toRecords p n v)))
      exec (.select tag p) s = .next (worked s 0x31 tag w failure.outcome (visitFields w.toRecords p)))
    ∧ (failure? s.toRecords p j = none → q.state ≠ .inService →
        exec (.select tag p) s = .next (worked s 0x31 tag stays .service (visitFields stays.toRecords p)))
    ∧ (failure? s.toRecords p j = none → q.state = .inService → 4 ≤ (inFlightList s.toRecords p).length →
        exec (.select tag p) s = .next (worked s 0x31 tag stays .busy (visitFields stays.toRecords p)))
    ∧ (failure? s.toRecords p j = none → q.state = .inService → (inFlightList s.toRecords p).length < 4 →
        (∀ charge shortfall, askReservation s.toRecords j = .short charge shortfall →
          exec (.select tag p) s =
            .next (worked s 0x31 tag stays .quota (visitFields stays.toRecords p ++ [u32 charge, s32 shortfall])))
        ∧ ∀ x y, askReservation s.toRecords j = .parts x y →
            let w := grantSelected p n j x y v s.work
            let window := armed s.fck.uptime s.rlu.grantWindow
            exec (.select tag p) s =
              .next (worked s 0x31 tag (refreshIdle p w) .ok
                (visitFields (refreshIdle p w).toRecords p
                  ++ [u16 n, u32 number, u8 p, u32 x, u32 y, opt deadlineField (window? w.toRecords p n)]))
            ∧ w.hq =
                { s.hq with
                  jobs := s.hq.jobs.put n
                    { j with stage := .releasing { printer := p, number, accountPart := x, poolPart := y } } }
            ∧ inFlightList w.toRecords p = inFlightList s.toRecords p ++ [{ job := n, window }]
            ∧ (inFlightList w.toRecords p).length = (inFlightList s.toRecords p).length + 1
            ∧ w.rlu.lastGrant = number
            ∧ (∀ k, w.rlu.visits.lookup k =
                if k = p then some (.opened (leaveMenu w.toRecords p n v)) else s.rlu.visits.lookup k)
            ∧ (∀ k, k ≠ p → inFlightList w.toRecords k = inFlightList s.toRecords k)
            ∧ w.adir.badges = s.adir.badges ∧ w.ptb = s.ptb ∧ w.spu = s.spu ∧ w.cou = s.cou ∧ w.fck = s.fck
            ∧ (∀ a, s.adir.accounts.lookup j.owner = some a →
                let available : Int := a.balance - (a.reserved + x : Nat) + a.overdraft
                let warned := if a.warned then decide (available < a.warnHigh ∨ available ≤ a.warnLow)
                  else decide (available ≤ a.warnLow)
                w.adir.accounts =
                    s.adir.accounts.put j.owner { a with reserved := a.reserved + x, inFlight := a.inFlight + 1, warned }
                ∧ w.raised = (if warned = a.warned then []
                  else [{ kind := .quotaWarning, key := j.owner
                          body := [u16 j.owner, flag warned, s32 available, s32 a.balance] }])
                ∧ (a.pool = none → w.adir.pools = s.adir.pools)
                ∧ ∀ k c, a.pool = some k → s.adir.pools.lookup k = some c →
                    w.adir.pools = s.adir.pools.put k { c with reserved := c.reserved + y })
            ∧ ((∀ e ∈ inFlightList s.toRecords p, e.job ≠ n) → window? w.toRecords p n = some window)))
  ∧ (∀ (r : Records) (p n : Nat) (v : OpenVisit),
      let left := v.menu.erase n
      let cursor := min v.cursor (left.length - 1)
      let waiting := (eligibleJobs r p v.account).filter (fun m => !left.contains m)
      (waiting = [] → leaveMenu r p n v = { v with menu := left, cursor, more := 0 })
      ∧ ∀ m rest, waiting = m :: rest →
          let menu := (r.hq.lists.list v.account).filter (fun k => k == m || left.contains k)
          leaveMenu r p n v =
            { v with
              menu
              cursor := if menu.idxOf m ≤ cursor ∧ left ≠ [] then cursor + 1 else cursor
              more := ((eligibleJobs r p v.account).filter (fun k => !menu.contains k)).length })
  ∧ ∀ (r : Records) (p : Nat) (q : Printer) (j : Job), r.ptb.printers.lookup p = some q →
      let fits := j.target = .any ∨ j.target = .floor q.floor ∨ j.target = .printer p ∨ j.reroutedFrom = some p
      let permitted := ∃ a, r.adir.accounts.lookup j.owner = some a ∧ a.colour = true
      let usable := fun l : SlotLetter => ∃ c, r.spu.slots.lookup (slotKey p l) = some c ∧ c.state ≠ .empty
      let stocked := usable .k ∧ (0 < j.colour → usable .c ∧ usable .m ∧ usable .y)
      let printed := (0 < j.colour → q.colourCapable = true)
      let handled := (j.size = .large → q.largeTray = true) ∧ (j.duplex = true → q.duplex = true)
      (j.stage ≠ .held → failure? r p j = some .state)
      ∧ (j.stage = .held →
          (¬(fits ∧ printed) → failure? r p j = some .capability)
          ∧ (fits → printed → 0 < j.colour → ¬permitted → failure? r p j = some .notPermitted)
          ∧ (fits → printed → (0 < j.colour → permitted) →
              (¬handled → failure? r p j = some .capability)
              ∧ (handled → ¬stocked → failure? r p j = some .supply)
              ∧ (handled → stocked → failure? r p j = none)))

/-- SELECT_ALL makes an OPEN visit DRAINING with a snapshot of up to 32 eligible jobs; DELETE cancels the job at the cursor; DONE
closes an OPEN or a DRAINING visit (R46, R64, R65, R68, R69, R71). The layout of the replies, the five fields of the visit first,
absent where it is not OPEN, and SELECT_ALL's list or DELETE's job behind them, is the model's choice (log 17). -/
def Obligations.SelectAllDeleteDone : Prop :=
  ∀ (s : State) (tag : Tag) (p : Nat) (q : Printer), p < 96 → s.ptb.printers.lookup p = some q →
    (∀ v, Taken s (.selectAll tag p) → s.rlu.visits.lookup p = some (.opened v) →
      let snapshot := (eligibleJobs s.toRecords p v.account).take 32
      let stays := refreshIdle p s.work
      (q.state = .inService → snapshot ≠ [] →
        exec (.selectAll tag p) s =
          .next (worked s 0x31 tag
            (s.work.setVisit p (.draining { account := v.account, jobs := snapshot, granted := 0, dropped := 0 })) .ok
            [u8 2, .absent, .absent, .absent, .absent, listField (fun n => [u16 n]) snapshot]))
      ∧ (q.state = .inService → snapshot = [] →
          exec (.selectAll tag p) s = .next (worked s 0x31 tag stays .noJobs (visitFields stays.toRecords p)))
      ∧ (q.state ≠ .inService →
          exec (.selectAll tag p) s = .next (worked s 0x31 tag stays .service (visitFields stays.toRecords p))))
    ∧ (∀ v, Taken s (.delete tag p) → s.rlu.visits.lookup p = some (.opened v) →
        (v.menu = [] →
          exec (.delete tag p) s =
            .next (worked s 0x31 tag (refreshIdle p s.work) .noJobs (visitFields (refreshIdle p s.work).toRecords p)))
        ∧ ∀ n j, v.menu[v.cursor]? = some n → s.hq.jobs.lookup n = some j → j.owner = v.account → j.stage = .held →
            1 ≤ n → n ≤ 65535 → v.account < 4096 →
            let w := refreshIdle p (removeJob n .cancelled 0 s.work)
            exec (.delete tag p) s =
              .next (worked s 0x31 tag w .ok (visitFields w.toRecords p ++ [u16 n])))
    ∧ (Taken s (.done tag p) →
        (∀ v, s.rlu.visits.lookup p = some (.opened v) →
          exec (.done tag p) s =
            .next (worked s 0x31 tag (closeVisit p .done s.work) .ok [u8 0, .absent, .absent, .absent, .absent]))
        ∧ ∀ d, s.rlu.visits.lookup p = some (.draining d) →
            exec (.done tag p) s =
              .next (worked s 0x31 tag (closeVisit p .done s.work) .ok [u8 d.granted, u8 d.dropped]))

/-- A drain grant is made where the drain's conditions hold: the head of the drain list is granted and announced, or dropped, and
an empty list ends the drain; while the notice queue has no room for a GRANT, it waits (R67, R70, R71). And what a grant is: the
next grant number, the job RELEASING with its reservation, its entry at the end of the in-flight list with its window, and the
owner's in-flight count one higher (R67); and the drain after its head is taken: the rest, or, where none is left, the visit closed
with DRAINED (R71). That a drain whose conditions do not hold leaves the state as it is, and the moment it is made, are the model's
choice (log 1), and so is the layout of GRANT, the declared sides and the two parts as two fields each (log 17). -/
def Obligations.DrainGranted : Prop :=
  ∀ (s : State) (p n : Nat) (rest : List Nat) (d : DrainVisit) (q : Printer), s.lnk.mainPower = true →
    s.rlu.visits.lookup p = some (.draining d) → d.jobs = n :: rest → s.ptb.printers.lookup p = some q →
    ((s.lnk.notices.length = 64 ∨ s.lnk.owed ≠ []) → exec (.drainGrant p) s = .next s)
    ∧ (s.lnk.notices.length < 64 → s.lnk.owed = [] →
        ((q.state ≠ .inService ∨ 4 ≤ (inFlightList s.toRecords p).length) →
          exec (.drainGrant p) s = .next (passed s s.work))
        ∧ (q.state = .inService → (inFlightList s.toRecords p).length < 4 →
            let dropped := leaveDrain p { d with jobs := rest, dropped := d.dropped + 1 } s.work
            (s.hq.jobs.lookup n = none → exec (.drainGrant p) s = .next (passed s dropped))
            ∧ ∀ j, s.hq.jobs.lookup n = some j →
                (failure? s.toRecords p j ≠ none → exec (.drainGrant p) s = .next (passed s dropped))
                ∧ (∀ charge shortfall, failure? s.toRecords p j = none →
                    askReservation s.toRecords j = .short charge shortfall →
                    exec (.drainGrant p) s = .next (passed s dropped))
                ∧ ∀ x y, failure? s.toRecords p j = none → askReservation s.toRecords j = .parts x y →
                    let w := grantJob p n j x y (reserve j.owner x y s.work)
                    exec (.drainGrant p) s =
                      .next (passed s
                        (leaveDrain p { d with jobs := rest, granted := d.granted + 1 }
                          (w.raise .grant n
                            [u16 n, u16 j.owner, u8 p, u32 w.rlu.lastGrant, u16 j.mono, u16 j.colour, u8 j.size.code,
                              flag j.duplex, u32 x, u32 y, opt deadlineField (window? w.toRecords p n)])))))
    ∧ (∀ (w : Work) (jobs : List Nat) (granted dropped : Nat),
        let left : DrainVisit := { d with jobs, granted, dropped }
        (jobs ≠ [] → leaveDrain p left w = w.setVisit p (.draining left))
        ∧ ∀ a, jobs = [] → w.adir.accounts.lookup d.account = some a →
            ∃ visits, (∀ k, visits.lookup k = if k = p then none else w.rlu.visits.lookup k)
              ∧ leaveDrain p left w =
                  { w with
                    rlu := { w.rlu with visits }
                    adir := { w.adir with accounts := w.adir.accounts.put d.account { a with openVisit := none } }
                    raised := w.raised ++
                      [{ kind := .visitClosed, key := p, body := [u8 p, u16 d.account, u8 3, u8 granted, u8 dropped] }] })
    ∧ ∀ (w : Work) (j : Job) (a : Account) (x y : Nat), w.adir.accounts.lookup j.owner = some a →
        let number := if w.rlu.lastGrant < 4294967295 then w.rlu.lastGrant + 1 else 1
        ∃ flying,
          (∀ k, flying.list k =
            if k = p then w.rlu.inFlight.list k ++ [{ job := n, window := armed w.fck.uptime w.rlu.grantWindow }]
            else w.rlu.inFlight.list k)
          ∧ grantJob p n j x y w =
              { w with
                rlu := { w.rlu with lastGrant := number, inFlight := flying }
                hq := { w.hq with
                  jobs := w.hq.jobs.put n
                    { j with stage := .releasing { printer := p, number, accountPart := x, poolPart := y } } }
                adir := { w.adir with accounts := w.adir.accounts.put j.owner { a with inFlight := a.inFlight + 1 } } }

/-- SPOOL_ACCEPTED makes a RELEASING job PRINTING with its completion window armed, and is refused with STATE for a PRINTING one,
as is SPOOL_FAILED (R74, R75). And the checks of every report, by SPOOL_ACCEPTED, SPOOL_FAILED or PAGES_DONE, in order: RANGE,
NO_RECORD, and MISMATCH, with the job's state, for a HELD job or another grant (R73). -/
def Obligations.SpoolAccepted : Prop :=
  (∀ (s : State) (tag : Tag) (n number : Nat) (c : Instr) (code : Nat), Taken s c → c.request? = some (code, tag) →
    (c ∈ [.spoolAccepted tag n number, .spoolFailed tag n number]
      ∨ ∃ f : PagesDone, f.job = n ∧ f.grant = number ∧ c = .pagesDone tag f) →
    ((n = 0 ∨ 65535 < n ∨ number = 0) → exec c s = .next (replied s code tag .range []))
    ∧ (1 ≤ n → n ≤ 65535 → number ≠ 0 →
        (s.hq.jobs.lookup n = none → exec c s = .next (replied s code tag .noRecord []))
        ∧ ∀ j, s.hq.jobs.lookup n = some j →
            (j.stage = .held → exec c s = .next (replied s code tag .mismatch [u8 0]))
            ∧ (∀ g, j.stage = .releasing g → g.number ≠ number → exec c s = .next (replied s code tag .mismatch [u8 1]))
            ∧ ∀ g accepted, j.stage = .printing g accepted → g.number ≠ number →
                exec c s = .next (replied s code tag .mismatch [u8 2])))
  ∧ ∀ (s : State) (tag : Tag) (n number : Nat) (j : Job), 1 ≤ n → n ≤ 65535 →
    number ≠ 0 → s.hq.jobs.lookup n = some j →
    (∀ g accepted, Taken s (.spoolFailed tag n number) → j.stage = .printing g accepted → g.number = number →
      exec (.spoolFailed tag n number) s = .next (replied s 0x33 tag .state []))
    ∧ (Taken s (.spoolAccepted tag n number) →
    (∀ g accepted, j.stage = .printing g accepted → g.number = number →
        exec (.spoolAccepted tag n number) s = .next (replied s 0x32 tag .state [u32 accepted]))
    ∧ ∀ g, j.stage = .releasing g → g.number = number →
        let window := armed s.fck.uptime s.rlu.completionWindow
        exec (.spoolAccepted tag n number) s =
          .next (worked s 0x32 tag
            ((s.work.setJob n { j with stage := .printing g s.fck.uptime }).setInFlight g.printer
              ((inFlightList s.toRecords g.printer).map (fun e => if e.job = n then { e with window } else e))) .ok
            [u32 window.value]))

/-- A failed release, by SPOOL_FAILED or by the fall of the grant window: the job leaves the in-flight list, its reservation is
refunded and an attempt counted; it is removed at the maximum of attempts, for a retiring owner or past its expiry, in that order,
and is otherwise HELD and offered to its owner's visit (R47, R63, R72, R75). A withdrawn release counts no attempt, and where the
printer entered OUT_OF_SERVICE the job takes the reroute test (R47, R78); the RELEASING jobs of a printer are returned in the order
of its in-flight list. And what the leaving of that list, the refund (R23) and the offer (R63) are. That a job removed for its
expiry is not offered to the visit first, that the reroute test comes before the offer, and that the owner's retirement completes
before the printer's, are the model's choice (logs 12, 13 and 11), and so is SPOOL_FAILED's reply of three items, attempts, state
and reason, the one that does not apply absent (log 17). -/
def Obligations.ReleaseFailed : Prop :=
  (∀ (s : State) (tag : Tag) (n : Nat) (j : Job) (g : Grant), s.hq.jobs.lookup n = some j → j.stage = .releasing g →
    1 ≤ n → n ≤ 65535 →
    let back : Job := { j with stage := .held, attempts := j.attempts + 1 }
    let w := (refund j.owner g (leaveFlight g.printer n j.owner s.work)).setJob n back
    let finish := fun w : Work => completePrinter g.printer (completeAccount j.owner w)
    let ending := fun (last : Work) (body : List Field) =>
      (g.number ≠ 0 → Taken s (.spoolFailed tag n g.number) →
        exec (.spoolFailed tag n g.number) s = .next (worked s 0x33 tag (finish last) .ok (u8 (j.attempts + 1) :: body)))
      ∧ (s.lnk.mainPower = true → ∀ d, window? s.toRecords g.printer n = some d → fallen s.fck.uptime d →
          exec (.grantWindow n) s = .next (passed s (finish last)))
    (s.rlu.maxAttempts ≤ j.attempts + 1 → ending (removeJob n .attempts 1 w) [.absent, u8 3])
    ∧ (j.attempts + 1 < s.rlu.maxAttempts → ownerRetiring s.toRecords j.owner = true →
        ending (removeJob n .ownerRetired 1 w) [.absent, u8 4])
    ∧ (j.attempts + 1 < s.rlu.maxAttempts → ownerRetiring s.toRecords j.owner = false → fallen s.fck.uptime j.expiry →
        ending (removeJob n .expired 0 w) [.absent, u8 1])
    ∧ (j.attempts + 1 < s.rlu.maxAttempts → ownerRetiring s.toRecords j.owner = false → ¬fallen s.fck.uptime j.expiry →
        ending (offerJob n j.owner w) [u8 0, .absent]))
  ∧ (∀ (w : Work) (n p : Nat) (j : Job) (g : Grant) (from? : Option Nat), w.hq.jobs.lookup n = some j →
      j.stage = .releasing g →
      let back := (refund j.owner g (leaveFlight g.printer n j.owner w)).setJob n { j with stage := .held }
      (ownerRetiring w.toRecords j.owner = true → endRelease false from? w n = removeJob n .ownerRetired 1 back)
      ∧ (ownerRetiring w.toRecords j.owner = false →
          (fallen w.fck.uptime j.expiry → endRelease false from? w n = removeJob n .expired 0 back)
          ∧ (¬fallen w.fck.uptime j.expiry →
              endRelease false none w n = offerJob n j.owner back
              ∧ endRelease false (some p) w n = offerJob n j.owner (rerouteJob p back n))))
  ∧ (∀ (w : Work) (p : Nat) (from? : Option Nat) (releasing : Nat → Bool),
      (∀ n, releasing n = true ↔ ∃ j g, w.hq.jobs.lookup n = some j ∧ j.stage = .releasing g) →
      returnReleasing p from? w =
        (((w.rlu.inFlight.list p).map (·.job)).filter releasing).foldl (endRelease false from?) w)
  ∧ ∀ (w : Work) (n p i : Nat) (g : Grant) (a : Account), w.adir.accounts.lookup i = some a →
      leaveFlight p n i w =
          (w.setInFlight p ((w.rlu.inFlight.list p).filter (fun e => e.job != n))).setAccount i
            { a with inFlight := a.inFlight - 1 }
      ∧ (let lowered := w.setAccount i { a with reserved := a.reserved - g.accountPart }
        (a.pool = none → refund i g w = evaluateWarning i lowered)
        ∧ ∀ k q, a.pool = some k → w.adir.pools.lookup k = some q →
            refund i g w = evaluateWarning i (lowered.setPool k { q with reserved := q.reserved - g.poolPart }))
      ∧ ((a.openVisit = none ∨ ∃ k, a.openVisit = some k ∧ ∀ v, w.rlu.visits.lookup k ≠ some (.opened v)) →
          offerJob n i w = w)
      ∧ ∀ k v, a.openVisit = some k → w.rlu.visits.lookup k = some (.opened v) →
          let menu := (w.hq.lists.list i).filter (fun m => m == n || v.menu.contains m)
          (eligible w.toRecords k n = false → offerJob n i w = w)
          ∧ (eligible w.toRecords k n = true → v.menu.length < 8 →
              offerJob n i w =
                w.setVisit k (.opened
                  { v with
                    menu
                    cursor := if menu.idxOf n ≤ v.cursor ∧ v.menu ≠ [] then v.cursor + 1 else v.cursor }))
          ∧ (eligible w.toRecords k n = true → 8 ≤ v.menu.length →
              offerJob n i w = w.setVisit k (.opened { v with more := v.more + 1 }))

/-- A settlement, by PAGES_DONE or by default at the fall of the completion window: the actual charge is priced and divided (R24),
posted to account and pool (R25), the toner consumed, the job taken out of its in-flight list, announced and taken out of the hold
queue, and the retirements that wait for it complete (R72, R76, R77, R109). The toner is consumed slot by slot: K over all sides,
C, M and Y over the colour sides, each sum held to 10,000 for each of its sides and taken times the quarters (R108). That the
owner's retirement completes before the printer's and the slots are taken in the order K, C, M, Y (log 11), that a completion
window before its time does nothing (logs 1 and 4), and that the sides priced and the two settled parts are two fields each, and
the basis is numbered REPORTED 0 and DEFAULT 1 (log 17), are the model's choice. -/
def Obligations.Settled : Prop :=
  ∀ (s : State) (tag : Tag) (n : Nat) (j : Job) (g : Grant), s.hq.jobs.lookup n = some j → 1 ≤ n → n ≤ 65535 →
    let settled := fun (basis mono colour : Nat) (v : Coverage) (a : Nat) =>
      let w := endHandling (applyConsumption g.printer j.size mono colour v (postSettlement j.owner g a s.work))
      completePrinter g.printer (completeAccount j.owner (leaveQueue n j.owner
        ((leaveFlight g.printer n j.owner w).raise .jobSettled n
          [u16 n, u16 j.owner, u8 g.printer, u32 g.number, u8 basis, u16 mono, u16 colour, u32 a,
            u32 (settledParts g a).1, u32 (settledParts g a).2])))
    (∀ f : PagesDone, f.job = n → f.grant = g.number → g.number ≠ 0 → Taken s (.pagesDone tag f) →
      (j.stage = .releasing g ∨ ∃ accepted, j.stage = .printing g accepted) →
      let a := charge s.qtu f.mono f.colour j.size
      exec (.pagesDone tag f) s =
        .next (worked s 0x34 tag (settled 0 f.mono f.colour ⟨f.sumK, f.sumC, f.sumM, f.sumY⟩ a) .ok
          [u32 a, u32 (settledParts g a).1, u32 (settledParts g a).2]))
    ∧ (∀ accepted d, j.stage = .printing g accepted → s.lnk.mainPower = true →
        window? s.toRecords g.printer n = some d →
        (fallen s.fck.uptime d →
          exec (.completionWindow n) s =
            .next (passed s
              (settled 1 j.mono j.colour
                ⟨500 * (j.mono + j.colour), 500 * j.colour, 500 * j.colour, 500 * j.colour⟩
                (charge s.qtu j.mono j.colour j.size))))
        ∧ (¬fallen s.fck.uptime d → exec (.completionWindow n) s = .next (passed s s.work)))
    ∧ (∀ a acct, s.adir.accounts.lookup j.owner = some acct →
        let posted := s.work.setAccount j.owner
          { acct with
            balance := max (-1048575) (acct.balance - (settledParts g a).1)
            reserved := acct.reserved - g.accountPart
            usedPeriod := min (acct.usedPeriod + a) 4294967295
            today := min (acct.today + a) 4294967295 }
        (acct.pool = none → postSettlement j.owner g a s.work = evaluateWarning j.owner posted)
        ∧ ∀ p q, acct.pool = some p → s.adir.pools.lookup p = some q →
            postSettlement j.owner g a s.work =
              evaluateWarning j.owner (posted.setPool p
                { q with
                  balance := max (-1048575) (q.balance - (settledParts g a).2)
                  reserved := q.reserved - g.poolPart
                  usedPeriod := min (q.usedPeriod + (settledParts g a).2) 4294967295 }))
    ∧ ∀ (w : Work) (p mono colour : Nat) (v : Coverage),
        let used := fun sum sides => min sum (10000 * sides) * (match j.size with
          | .small => 2
          | .standard => 4
          | .large => 8)
        applyConsumption p j.size mono colour v w =
          consume p (used v.y colour) colour .y
            (consume p (used v.m colour) colour .m
              (consume p (used v.c colour) colour .c
                (consume p (used v.k (mono + colour)) (mono + colour) .k w)))

/-- VISIT_READ and PRINTER_READ: the fields of the record, those absent that its state does not have (R81, R102). How such fields
are laid out, and the widths of counts, are the model's choice (logs 17 and 18). -/
def Obligations.TerminalRead : Prop :=
  ∀ (s : State) (tag : Tag) (i : Nat),
    (Taken s (.visitRead tag i) →
      (96 ≤ i → exec (.visitRead tag i) s = .next (replied s 0x35 tag .range []))
      ∧ (i < 96 → s.ptb.printers.lookup i = none → exec (.visitRead tag i) s = .next (replied s 0x35 tag .noRecord []))
      ∧ ∀ q (flying : List (InFlight × Job × Grant)), i < 96 → s.ptb.printers.lookup i = some q →
          flying.map (·.1) = inFlightList s.toRecords i →
          (∀ e ∈ flying, s.hq.jobs.lookup e.1.job = some e.2.1
            ∧ (e.2.1.stage = .releasing e.2.2 ∨ ∃ accepted, e.2.1.stage = .printing e.2.2 accepted)) →
          let list := Field.bytes (flying.flatMap (fun e =>
            beBytes 2 e.1.job ++ beBytes 2 e.2.1.owner ++ beBytes 4 e.2.2.number ++ beBytes 1 e.2.1.stage.code
              ++ beBytes 4 e.1.window.value))
          let numbers := fun l : List Nat => Field.bytes (l.flatMap (beBytes 2))
          (s.rlu.visits.lookup i = none →
            exec (.visitRead tag i) s =
              .next (replied s 0x35 tag .ok
                [u8 0, .absent, .absent, .absent, .absent, .absent, .absent, .absent, .absent, list]))
          ∧ (∀ v, s.rlu.visits.lookup i = some (.opened v) →
              exec (.visitRead tag i) s =
                .next (replied s 0x35 tag .ok
                  [u8 1, u16 v.account, numbers v.menu, u8 v.cursor, u8 v.more, u32 v.idle.value, .absent, .absent, .absent,
                    list]))
          ∧ ∀ d, s.rlu.visits.lookup i = some (.draining d) →
              exec (.visitRead tag i) s =
                .next (replied s 0x35 tag .ok
                  [u8 2, u16 d.account, .absent, .absent, .absent, .absent, numbers d.jobs, u8 d.granted, u8 d.dropped, list]))
    ∧ (Taken s (.printerRead tag i) →
        (96 ≤ i → exec (.printerRead tag i) s = .next (replied s 0x42 tag .range []))
        ∧ (i < 96 → s.ptb.printers.lookup i = none →
            exec (.printerRead tag i) s = .next (replied s 0x42 tag .noRecord []))
        ∧ ∀ q, i < 96 → s.ptb.printers.lookup i = some q →
            exec (.printerRead tag i) s =
              .next (replied s 0x42 tag .ok
                [u8 q.state.code, flag q.present, u8 q.floor, opt u8 q.sibling, flag q.colourCapable, flag q.duplex,
                  flag q.largeTray, u8 q.modelGroup, u8 q.slotCount, u16 q.heartbeatTimeout, flag q.autoReturn,
                  flag q.restartPermitted, flag q.restartUsed, compound (causeParts q.state), u8 q.live.toNat,
                  u8 q.latched.toNat,
                  .bytes (q.qualification.flatMap (fun e => beBytes 1 (conditionCode e.1) ++ beBytes 4 e.2.value)),
                  opt deadlineField q.heartbeat, opt deadlineField q.absence, opt deadlineField q.restart,
                  opt deadlineField q.restartCredit, u8 (inFlightList s.toRecords i).length,
                  u32 (s.ptb.printers.filter (fun e => e.2.sibling == some i)).length]))

/-! ### Printers -/

/-- PRINTER_ADD and PRINTER_SET accepted: the record a new printer starts with, ABSENT and announced; the fields a PRINTER_SET
selects (R100, R101). And their refusals, in order: RANGE, DUPLICATE or RETIRING for a slot that is not FREE, RETIRING for a
PRINTER_SET of a RETIRING printer, RANGE of the fields, and RANGE or RETIRING of the sibling; for PRINTER_SET the sibling comes
before the slot count of a colour-capable printer. A yes-or-no byte that names nothing before these checks (log 29), and
PRINTER_STATE's cause with its condition as one compound field (log 17), are the model's choice. -/
def Obligations.PrinterAddedAndSet : Prop :=
  ∀ (s : State) (tag : Tag),
    (∀ f : PrinterAdd, Taken s (.printerAdd tag f) →
      let refused := fun o : ReplyOutcome => exec (.printerAdd tag f) s = .next (replied s 0x40 tag o [])
      let bytes := f.colour ≤ 1 ∧ f.duplex ≤ 1 ∧ f.largeTray ≤ 1 ∧ f.autoReturn ≤ 1 ∧ f.restartPermitted ≤ 1
      let fields := f.floor < 128 ∧ f.modelGroup < 16 ∧ (f.slotCount = 4 ∨ f.slotCount = 1 ∧ f.colour = 0)
      ((96 ≤ f.printer ∨ ¬bytes) → refused .range)
      ∧ (f.printer < 96 → bytes →
          (∀ q, s.ptb.printers.lookup f.printer = some q →
            ((∀ accepted, q.state ≠ .retiring accepted) → refused .duplicate)
            ∧ ∀ accepted, q.state = .retiring accepted → refused .retiring)
          ∧ (s.ptb.printers.lookup f.printer = none →
              (¬fields → refused .range)
              ∧ ∀ k, fields → f.sibling = some k →
                  ((96 ≤ k ∨ k = f.printer ∨ s.ptb.printers.lookup k = none) → refused .range)
                  ∧ ∀ q accepted, k < 96 → k ≠ f.printer → s.ptb.printers.lookup k = some q →
                      q.state = .retiring accepted → refused .retiring)))
    ∧ (∀ (f : PrinterSet) (q : Printer), Taken s (.printerSet tag f) → f.printer < 96 →
        s.ptb.printers.lookup f.printer = some q →
        let bytes := ∀ b, b ∈ f.colour.toList ++ f.duplex.toList ++ f.largeTray.toList ++ f.autoReturn.toList
          ++ f.restartPermitted.toList → b ≤ 1
        let refused := fun o : ReplyOutcome => exec (.printerSet tag f) s = .next (replied s 0x41 tag o [])
        (¬bytes → refused .range)
        ∧ (∀ accepted, bytes → q.state = .retiring accepted → refused .retiring)
        ∧ (bytes → (∀ accepted, q.state ≠ .retiring accepted) →
            let fields := (∀ v, f.floor = some v → v < 128) ∧ (∀ v, f.modelGroup = some v → v < 16)
              ∧ ∀ v, f.slotCount = some v → v = 1 ∨ v = 4
            (¬fields → refused .range)
            ∧ (∀ k, fields → f.sibling = some (some k) →
                ((96 ≤ k ∨ k = f.printer ∨ s.ptb.printers.lookup k = none) → refused .range)
                ∧ ∀ r accepted, k < 96 → k ≠ f.printer → s.ptb.printers.lookup k = some r →
                    r.state = .retiring accepted → refused .retiring)
            ∧ (fields →
                (∀ k, f.sibling = some (some k) → k < 96 ∧ k ≠ f.printer
                  ∧ ∃ r, s.ptb.printers.lookup k = some r ∧ ∀ accepted, r.state ≠ .retiring accepted) →
                (f.colour.map (· == 1)).getD q.colourCapable = true → f.slotCount.getD q.slotCount ≠ 4 → refused .range)))
    ∧ (∀ f : PrinterAdd, Taken s (.printerAdd tag f) → f.printer < 96 → s.ptb.printers.lookup f.printer = none →
      f.colour ≤ 1 → f.duplex ≤ 1 → f.largeTray ≤ 1 → f.autoReturn ≤ 1 → f.restartPermitted ≤ 1 →
      f.floor < 128 → f.modelGroup < 16 → (f.slotCount = 4 ∨ f.slotCount = 1 ∧ f.colour = 0) →
      (∀ k, f.sibling = some k → k < 96 ∧ k ≠ f.printer
        ∧ ∃ q, s.ptb.printers.lookup k = some q ∧ ∀ accepted, q.state ≠ .retiring accepted) →
      let timeout := max 30 (min 3600 f.heartbeatTimeout)
      let q : Printer :=
        { state := .absent, present := false, floor := f.floor, sibling := f.sibling, colourCapable := f.colour == 1
          duplex := f.duplex == 1, largeTray := f.largeTray == 1, modelGroup := f.modelGroup, slotCount := f.slotCount
          heartbeatTimeout := timeout, autoReturn := f.autoReturn == 1, restartPermitted := f.restartPermitted == 1
          restartUsed := false, live := 0, latched := 0, qualification := [], heartbeat := none, absence := none
          restart := none, restartCredit := none }
      exec (.printerAdd tag f) s =
        .next (worked s 0x40 tag
          ((s.work.setPrinter f.printer q).raise .printerState f.printer
            [u8 f.printer, u8 0, u8 1, .bytes [0, 0, 0], u8 0, u8 0, u8 0, u8 0]) .ok
          [u8 f.floor, opt u8 f.sibling, flag q.colourCapable, flag q.duplex, flag q.largeTray, u8 f.modelGroup,
            u8 f.slotCount, u16 timeout, flag q.autoReturn, flag q.restartPermitted]))
    ∧ ∀ (f : PrinterSet) (q : Printer), Taken s (.printerSet tag f) → f.printer < 96 →
        s.ptb.printers.lookup f.printer = some q → (∀ accepted, q.state ≠ .retiring accepted) →
        (∀ b, b ∈ f.colour.toList ++ f.duplex.toList ++ f.largeTray.toList ++ f.autoReturn.toList
          ++ f.restartPermitted.toList → b ≤ 1) →
        (∀ v, f.floor = some v → v < 128) → (∀ v, f.modelGroup = some v → v < 16) →
        (∀ v, f.slotCount = some v → v = 1 ∨ v = 4) →
        (∀ k, f.sibling = some (some k) → k < 96 ∧ k ≠ f.printer
          ∧ ∃ q, s.ptb.printers.lookup k = some q ∧ ∀ accepted, q.state ≠ .retiring accepted) →
        let chosen := fun (stored : Bool) (byte : Option Nat) => (byte.map (· == 1)).getD stored
        let q' : Printer :=
          { q with
            floor := f.floor.getD q.floor, sibling := f.sibling.getD q.sibling, colourCapable := chosen q.colourCapable f.colour
            duplex := chosen q.duplex f.duplex, largeTray := chosen q.largeTray f.largeTray
            modelGroup := f.modelGroup.getD q.modelGroup, slotCount := f.slotCount.getD q.slotCount
            heartbeatTimeout := selected 30 3600 q.heartbeatTimeout f.heartbeatTimeout
            autoReturn := chosen q.autoReturn f.autoReturn, restartPermitted := chosen q.restartPermitted f.restartPermitted }
        let fitted := fun l : SlotLetter => s.spu.slots.lookup (slotKey f.printer l) ≠ none
        (q'.colourCapable = true → q'.slotCount = 4) →
        (((q'.slotCount = 1 ∧ (fitted .c ∨ fitted .m ∨ fitted .y))
            ∨ (q'.modelGroup ≠ q.modelGroup ∧ (fitted .k ∨ fitted .c ∨ fitted .m ∨ fitted .y))) →
          exec (.printerSet tag f) s = .next (replied s 0x41 tag .state []))
        ∧ ((q'.slotCount = 1 → ¬fitted .c ∧ ¬fitted .m ∧ ¬fitted .y) →
            (q'.modelGroup ≠ q.modelGroup → ¬fitted .k ∧ ¬fitted .c ∧ ¬fitted .m ∧ ¬fitted .y) →
            exec (.printerSet tag f) s =
              .next (worked s 0x41 tag (s.work.setPrinter f.printer q') .ok
                [u8 q'.floor, opt u8 q'.sibling, flag q'.colourCapable, flag q'.duplex, flag q'.largeTray, u8 q'.modelGroup,
                  u8 q'.slotCount, u16 q'.heartbeatTimeout, flag q'.autoReturn, flag q'.restartPermitted]))

/-- STATUS_REPORT accepted: presence, the heartbeat, the live and latched sets are recorded, the sensor readings go to SPU unless
the printer is RETIRING, and the state moves as its live set says; and which qualification deadlines a live set has: one for each
live FAULT condition, the one it has, or one armed at its qualification time (R86 to R89, R91, R95). The order in which its parts
are carried out is the model's choice (logs 11 and 38), and so are the refusal of a report with readings missing (log 16) and the
reply's cause with its condition as one compound field (log 17). -/
def Obligations.StatusReported : Prop :=
  (∀ (s : State) (tag : Tag) (i conditions : Nat) (readings : List Nat) (q : Printer) (examined : List Reading),
     Taken s (.statusReport tag i conditions readings) → i < 96 → conditions < 128 →
     s.ptb.printers.lookup i = some q → examined? q.slotCount readings = some examined →
     let now := s.fck.uptime
     let live := BitVec.ofNat 7 conditions
     let heard := armed now q.heartbeatTimeout
     let recorded : Printer :=
       { q with
         present := true
         absence := if q.present then q.absence else none
         heartbeat := if q.state.heartbeatArmed then some heard else q.heartbeat
         live, latched := q.latched ||| live }
     let serving : Printer :=
       { recorded with
         state := .inService, qualification := [], restart := none
         restartCredit := if q.restartUsed then some (armed now 86400) else none }
     let qualifying : Printer :=
       { recorded with state := .qualifying, qualification := qualify now s.ptb q.qualification live, restartCredit := none }
     let start := (if q.present then s.work else endAbsence i s.work).setPrinter i recorded
     let told := fun (final : Printer) (w : Work) =>
       exec (.statusReport tag i conditions readings) s =
         .next (worked s 0x43 tag (finishChange i q final w) .ok
           [u8 final.state.code, u8 1, compound (causeParts final.state), u8 live.toNat, u8 (q.latched ||| live).toNat,
             opt deadlineField final.heartbeat])
     let read := takeReadings i examined start
     (clean live = true →
       ((q.state = .absent ∨ q.state = .qualifying) → told serving read)
       ∧ (q.state = .inService → told recorded read)
       ∧ (q.state = .restarting → told { serving with heartbeat := some heard } read)
       ∧ (∀ cause, q.state = .outOfService cause → cause ≠ .byRequest → q.autoReturn = true → told serving read)
       ∧ (∀ cause, q.state = .outOfService cause → (cause = .byRequest ∨ q.autoReturn = false) → told recorded read))
     ∧ (clean live = false →
         ((q.state = .absent ∨ q.state = .inService ∨ q.state = .qualifying) → told qualifying read)
         ∧ (q.state = .restarting → told recorded read)
         ∧ (∀ cause, q.state = .outOfService cause → told recorded read))
     ∧ (∀ accepted, q.state = .retiring accepted → told recorded start))
  ∧ ∀ (now : Nat) (ptb : Ptb) (held : List (Condition × Deadline)) (live : CondSet) (c : Condition) (d : Deadline),
      (c, d) ∈ qualify now ptb held live ↔
        c ≠ .paperLow ∧ live.getLsbD (conditionCode c) = true
          ∧ ((∃ before after, held = before ++ (c, d) :: after ∧ ∀ e ∈ before, e.1 ≠ c)
            ∨ ((∀ e ∈ held, e.1 ≠ c) ∧ d = armed now (ptb.qualificationTime c)))

/-- CONDITIONS_CLEAR takes conditions that are not live out of the latched set (R99). A byte with its top bit set names no
condition set and is refused with RANGE (R187); that this comes before the checks of the record is the model's choice (log 29). -/
def Obligations.ConditionsCleared : Prop :=
  ∀ (s : State) (tag : Tag) (i conditions : Nat), Taken s (.conditionsClear tag i conditions) →
    ((96 ≤ i ∨ 128 ≤ conditions) → exec (.conditionsClear tag i conditions) s = .next (replied s 0x44 tag .range []))
    ∧ (i < 96 → conditions < 128 → s.ptb.printers.lookup i = none →
        exec (.conditionsClear tag i conditions) s = .next (replied s 0x44 tag .noRecord []))
    ∧ ∀ q, i < 96 → conditions < 128 → s.ptb.printers.lookup i = some q →
        ∃ latched stayed : CondSet,
          exec (.conditionsClear tag i conditions) s =
            .next (worked s 0x44 tag (s.work.setPrinter i { q with latched }) .ok [u8 latched.toNat, u8 stayed.toNat])
          ∧ ∀ b, latched.getLsbD b =
                (q.latched.getLsbD b && !(conditions.testBit b && !q.live.getLsbD b))
              ∧ stayed.getLsbD b = (conditions.testBit b && q.live.getLsbD b)

/-- SERVICE_WITHDRAW takes a printer OUT_OF_SERVICE by request from every state but RETIRING; SERVICE_RETURN takes one back by its
presence and its live set, and is refused with STATE elsewhere (R96, R97). And what a change of a printer's health brings, by these
or by a report or a deadline: PRINTER_STATE where the state or presence changed (R98); a printer that stops serving has its visit
closed with SERVICE and its RELEASING jobs returned (R78); an entry into OUT_OF_SERVICE makes the reroute pass and a FAULT or
RESTART cause (R51, R143), a withdrawal inside it and the leaving of it end that cause (R149, R151); and at the end of the handling
the owners of the jobs returned may retire (R72, R160). And what a reroute pass is: each HELD job pinned to the printer and not
rerouted before, where its sibling is IN_SERVICE and capable (R50, R51, R52). That the blocks act in this order, that a returned
job takes the reroute test as it returns, and that the pass takes the jobs by rising number, are the model's choice (logs 11 and
13), and so is the cause with its condition as one compound field of the reply and of PRINTER_STATE (log 17). -/
def Obligations.WithdrawnAndReturned : Prop :=
  (∀ (s : State) (tag : Tag) (i : Nat) (q : Printer), i < 96 → s.ptb.printers.lookup i = some q →
    let out : Printer :=
      { q with state := .outOfService .byRequest, qualification := [], restart := none, restartCredit := none }
    (Taken s (.serviceWithdraw tag i) →
      let withdrawn := fun q' : Printer =>
        exec (.serviceWithdraw tag i) s =
          .next (worked s 0x45 tag (finishChange i q q' s.work) .ok
            [u8 q.state.code, compound (causeParts q.state)])
      ((q.state = .absent ∨ q.state = .inService ∨ q.state = .qualifying) → withdrawn out)
      ∧ (q.state = .restarting → withdrawn { out with heartbeat := some (armed s.fck.uptime q.heartbeatTimeout) })
      ∧ (∀ cause, q.state = .outOfService cause → withdrawn { q with state := .outOfService .byRequest })
      ∧ (∀ accepted, q.state = .retiring accepted →
          exec (.serviceWithdraw tag i) s = .next (replied s 0x45 tag .retiring [])))
    ∧ (Taken s (.serviceReturn tag i) →
        let returned := fun q' : Printer =>
          exec (.serviceReturn tag i) s =
            .next (worked s 0x46 tag (finishChange i q q' s.work) .ok [u8 q'.state.code])
        (∀ cause, q.state = .outOfService cause →
          (q.present = false → returned { q with state := .absent, heartbeat := none })
          ∧ (q.present = true → clean q.live = true →
              returned { q with
                state := .inService, qualification := [], restart := none
                restartCredit := if q.restartUsed then some (armed s.fck.uptime 86400) else none })
          ∧ (q.present = true → clean q.live = false →
              returned { q with
                state := .qualifying, qualification := qualify s.fck.uptime s.ptb q.qualification q.live
                restartCredit := none }))
        ∧ ((q.state = .absent ∨ q.state = .inService ∨ q.state = .qualifying ∨ q.state = .restarting) →
            exec (.serviceReturn tag i) s = .next (replied s 0x46 tag .state []))
        ∧ (∀ accepted, q.state = .retiring accepted →
            exec (.serviceReturn tag i) s = .next (replied s 0x46 tag .retiring []))))
  ∧ (∀ (w : Work) (i : Nat) (old new : Printer),
      let told :=
        if old.state = new.state ∧ old.present = new.present then w.setPrinter i new
        else (w.setPrinter i new).raise .printerState i
          [u8 i, u8 old.state.code, u8 new.state.code, compound (causeParts new.state), flag new.present, flag new.restartUsed,
            u8 new.live.toNat, u8 new.latched.toNat]
      let serving := old.state = .inService ∨ old.state = .qualifying
      let stands := fun k : CauseKind => match k with
        | .fault _ => true
        | .restart => true
        | _ => false
      let ended := fun (reason : ResolveReason) (w : Work) =>
        resolveWhere (fun t => t.printer == i && stands t.kind) reason (dropOwed (fun o => o.printer == i && stands o.kind) w)
      finishChange i old new w = completeAccounts (releasingOwners w.toRecords i) (endHandling (changePrinter i old new w))
      ∧ (old.state = new.state → changePrinter i old new w = told)
      ∧ (serving → (new.state = .absent ∨ new.state = .restarting) →
          changePrinter i old new w = returnReleasing i none (closeVisit i .service told))
      ∧ ((old.state = .absent ∨ serving ∨ old.state = .restarting) → (new.state = .inService ∨ new.state = .qualifying) →
          changePrinter i old new w = told)
      ∧ (∀ cause, new.state = .outOfService cause →
          let entered := fun w : Work => match cause with
            | .fault c => arise i (.fault c) (reroutePass i w)
            | .restartFailed => arise i .restart (reroutePass i w)
            | .byRequest => reroutePass i w
          (serving → changePrinter i old new w = entered (returnReleasing i (some i) (closeVisit i .service told)))
          ∧ ((old.state = .absent ∨ old.state = .restarting) → changePrinter i old new w = entered told)
          ∧ ∀ before, old.state = .outOfService before → before ≠ .byRequest → cause = .byRequest →
              changePrinter i old new w = ended .withdrawn told)
      ∧ ∀ before, old.state = .outOfService before →
          (new.state = .absent ∨ new.state = .inService ∨ new.state = .qualifying) →
          changePrinter i old new w = ended .cleared told)
  ∧ ∀ (w : Work) (i : Nat) (q : Printer), TablesSound w.toRecords → w.ptb.printers.lookup i = some q →
      ((q.sibling = none ∨ ∃ k, q.sibling = some k ∧ w.ptb.printers.lookup k = none) → reroutePass i w = w)
      ∧ ∀ k sibling, q.sibling = some k → w.ptb.printers.lookup k = some sibling →
          let moves := fun j : Job => decide (j.stage = .held ∧ j.target = .printer i ∧ j.reroutedFrom = none
            ∧ sibling.state = .inService ∧ (0 < j.colour → sibling.colourCapable = true)
            ∧ (j.size = .large → sibling.largeTray = true) ∧ (j.duplex = true → sibling.duplex = true))
          reroutePass i w =
            { w with
              hq := { w.hq with
                jobs := w.hq.jobs.map (fun e =>
                  (e.1, if moves e.2 then { e.2 with target := .printer k, reroutedFrom := some i } else e.2)) }
              raised := w.raised ++ (w.hq.jobs.filter (fun e => moves e.2)).map (fun e =>
                { kind := .jobRerouted, key := e.1
                  body := [u16 e.1, u16 e.2.owner, compound (targetParts (.printer k)), u8 i] }) }

/-- A printer's five kinds of deadline, each as it falls due, earliest first (R90 to R94, R105). That an event whose time has not
come does nothing, and that RESTART_REQUEST is raised before the PRINTER_STATE of the same fall, are the model's choice (logs 1, 4
and 11). -/
def Obligations.PrinterDeadlines : Prop :=
  ∀ (s : State) (i : Nat) (q : Printer), s.lnk.mainPower = true → s.ptb.printers.lookup i = some q →
    let now := s.fck.uptime
    let falls := fun d : Deadline => fallen now d ∧ ∀ e ∈ q.deadlines, fallen now e → d.value ≤ e.value
    let out := fun cause : OutCause =>
      { q with state := .outOfService cause, qualification := [], restart := none, restartCredit := none }
    (∀ c d, q.state = .qualifying → qualificationOf? q.qualification c = some d →
      (¬falls d → exec (.qualificationDeadline i c) s = .next (passed s s.work))
      ∧ (falls d → (restartable c = false ∨ q.restartPermitted = false ∨ q.restartUsed = true) →
          exec (.qualificationDeadline i c) s =
            .next (passed s (finishChange i q (out (.fault c)) s.work)))
      ∧ (falls d → restartable c = true → q.restartPermitted = true → q.restartUsed = false →
          let deadline := armed now s.ptb.restartWindow
          exec (.qualificationDeadline i c) s =
            .next (passed s (finishChange i q
              { q with
                state := .restarting, qualification := [], restartCredit := none, restartUsed := true, heartbeat := none
                restart := some deadline }
              (s.work.raise .restartRequest i [u8 i, u8 (conditionCode c), u32 deadline.value])))))
    ∧ (∀ d, q.state = .restarting → q.restart = some d → falls d →
        exec (.restartDeadline i) s =
          .next (passed s (finishChange i q
            { out .restartFailed with heartbeat := some (armed now q.heartbeatTimeout) } s.work)))
    ∧ (∀ d, q.restartCredit = some d → falls d →
        exec (.restartCreditDeadline i) s =
          .next (passed s (s.work.setPrinter i { q with restartUsed := false, restartCredit := none })))
    ∧ (∀ d, q.heartbeat = some d → falls d →
        let silent : Printer :=
          { q with present := false, heartbeat := none, absence := some (armed now s.ptb.absenceDelay) }
        ((q.state = .inService ∨ q.state = .qualifying) →
          exec (.heartbeatDeadline i) s =
            .next (passed s (finishChange i q
              { silent with state := .absent, qualification := [], restartCredit := none } s.work)))
        ∧ (q.state ≠ .inService → q.state ≠ .qualifying →
            exec (.heartbeatDeadline i) s = .next (passed s (finishChange i q silent s.work))))
    ∧ ∀ d, q.absence = some d →
        let w := s.work.setPrinter i { q with absence := none }
        (falls d → q.state = .outOfService .byRequest → exec (.absenceDeadline i) s = .next (passed s w))
        ∧ (falls d → q.state ≠ .outOfService .byRequest →
            exec (.absenceDeadline i) s = .next (passed s (endHandling (arise i .absence w))))
        ∧ (¬falls d → exec (.absenceDeadline i) s = .next (passed s s.work))

/-! ### Cartridges and stock -/

/-- SUPPLY_DEFINE and SUPPLY_SET accepted: the settings given are clamped and stored, the defaults take the place of those a new
type omits, and the order state is evaluated: every type that was not DUE when the handling began and is DUE at its end is
announced, in index order behind the notices raised before, and no other is (R124, R126, R127, R133). And the refusals of
SUPPLY_DEFINE, in order: RANGE of the index, DUPLICATE or RETIRING for a slot that is not FREE, RANGE of the colour and the model
group (R126); and that of the requests that name a RETIRING type (R125, R165). The order of several such notices, the numbers IDLE
0, ORDERED 1 and DUE 2 of the order state, and the widths of counts are the model's choice (logs 11, 17 and 18). -/
def Obligations.SupplyDefinedAndSet : Prop :=
  (∀ (s : State) (tag : Tag) (i : Nat) (f : SupplySettings),
    (∀ colour group, Taken s (.supplyDefine tag i colour group f) →
      let refused := fun o : ReplyOutcome => exec (.supplyDefine tag i colour group f) s = .next (replied s 0x50 tag o [])
      (32 ≤ i → refused .range)
      ∧ (i < 32 →
          (∀ t, s.spu.types.lookup i = some t →
            (t.state = .active → refused .duplicate) ∧ (t.state = .retiring → refused .retiring))
          ∧ (s.spu.types.lookup i = none → (3 < colour ∨ 16 ≤ group) → refused .range)))
    ∧ ∀ (c : Instr) (code n : Nat) (t : SupplyType), Taken s c → c.request? = some (code, tag) →
        c ∈ [.supplySet tag i f, .supplyRetire tag i, .orderPlaced tag i n, .deliveryReceived tag i n, .stockAdjust tag i n] →
        i < 32 → s.spu.types.lookup i = some t → t.state = .retiring → exec c s = .next (replied s code tag .retiring []))
  ∧ ∀ (s : State) (tag : Tag) (i : Nat) (f : SupplySettings), i < 32 →
    let chosen := fun t : SupplyType => { t with
      ratedYield := selected 1000 60000 t.ratedYield f.ratedYield
      lowPercent := selected 1 50 t.lowPercent f.lowPercent
      leadDays := selected 1 60 t.leadDays f.leadDays
      safetyDays := selected 0 30 t.safetyDays f.safetyDays
      reorderQuantity := selected 1 99 t.reorderQuantity f.reorderQuantity
      minimumStock := selected 0 99 t.minimumStock f.minimumStock }
    let settings := fun t : SupplyType =>
      [u16 t.ratedYield, u8 t.lowPercent, u8 t.leadDays, u8 t.safetyDays, u8 t.reorderQuantity, u8 t.minimumStock]
    (∀ colour letter group, Taken s (.supplyDefine tag i colour group f) → s.spu.types.lookup i = none →
      slotLetter? colour = some letter → group < 16 →
      let t := chosen
        { state := .active, colour := letter, modelGroup := group, ratedYield := 10000, lowPercent := 15, leadDays := 7
          safetyDays := 3, reorderQuantity := 4, minimumStock := 1, onHand := 0, reservations := [], onOrder := 0
          overdue := none, overdueRaised := false }
      let w := s.work.setType i t
      exec (.supplyDefine tag i colour group f) s =
        .next (worked s 0x50 tag (orderPoint w) .ok (settings t ++ [u8 (orderState w.toRecords i t).code])))
    ∧ (∀ old, Taken s (.supplySet tag i f) → s.spu.types.lookup i = some old → old.state = .active →
        let t := chosen old
        let w := s.work.setType i t
        exec (.supplySet tag i f) s =
          .next (worked s 0x51 tag (orderPoint w) .ok
            (settings t ++ [s32 t.position, u32 (need w.toRecords i t), u8 (orderState w.toRecords i t).code])))
    ∧ (∀ k, TablesSound s.toRecords →
        (k ∈ s.work.due ↔ ∃ t, s.spu.types.lookup k = some t
          ∧ (t.onHand : Int) - t.reservations.length + t.onOrder < need s.toRecords k t))
    ∧ ∀ w : Work, TablesSound w.toRecords →
        let due := w.spu.types.filter (fun e =>
          decide ((e.2.onHand : Int) - e.2.reservations.length + e.2.onOrder < need w.toRecords e.1 e.2))
        orderPoint w =
          { w with
            due := due.map (·.1)
            raised := w.raised ++ (due.filter (fun e => !w.due.contains e.1)).map (fun e =>
              let t := e.2
              let n := need w.toRecords e.1 t
              { kind := .reorderDue, key := e.1
                body := [u8 e.1, u8 t.colour.code, u8 t.modelGroup,
                  u32 (max t.reorderQuantity ((n : Int) - ((t.onHand : Int) - t.reservations.length + t.onOrder)).toNat),
                  u16 t.onHand, u16 t.reservations.length, u16 t.onOrder, u16 (demand w.toRecords e.1 t), u8 t.minimumStock,
                  s32 ((t.onHand : Int) - t.reservations.length + t.onOrder), u32 n] }) }

/-- CARTRIDGE_READ and SUPPLY_READ change nothing and carry the record's fields with what is derived from them (R119, R128, R132,
R133). The layout of the reservation list and the widths of counts are the model's choice (logs 17 and 18). -/
def Obligations.SupplyRead : Prop :=
  ∀ (s : State) (tag : Tag) (i : Nat),
    (∀ letter l q, Taken s (.cartridgeRead tag i letter) → i < 96 → slotLetter? letter = some l →
      s.ptb.printers.lookup i = some q →
      (l ≠ .k → q.slotCount ≠ 4 → exec (.cartridgeRead tag i letter) s = .next (replied s 0x56 tag .range []))
      ∧ ((l = .k ∨ q.slotCount = 4) →
          (s.spu.slots.lookup (slotKey i l) = none →
            exec (.cartridgeRead tag i letter) s = .next (replied s 0x56 tag .ok [u8 0]))
          ∧ ∀ c t, s.spu.slots.lookup (slotKey i l) = some c → s.spu.types.lookup c.supplyType = some t →
              exec (.cartridgeRead tag i letter) s =
                .next (replied s 0x56 tag .ok
                  [u8 1, u8 c.supplyType, u32 c.capacity, u32 c.remaining, u32 c.today, u32 c.average, flag c.seeded,
                    u8 c.level, u16 c.projected, u8 c.state.code, flag c.corrected, u32 c.sides, u8 t.lowPercent,
                    u32 (t.leadDays + t.safetyDays), flag (t.reservations.contains (slotKey i l))])))
    ∧ ∀ t, Taken s (.supplyRead tag i) → i < 32 → s.spu.types.lookup i = some t →
        let fitted := fun p : LevelState → Bool =>
          u32 (s.spu.slots.filter (fun e => e.2.supplyType == i && p e.2.state)).length
        exec (.supplyRead tag i) s =
          .next (replied s 0x52 tag .ok
            [u8 t.state.code, u8 t.colour.code, u8 t.modelGroup, u16 t.ratedYield, u8 t.lowPercent, u8 t.leadDays,
              u8 t.safetyDays, u8 t.reorderQuantity, u8 t.minimumStock, u16 t.onHand, u16 t.reservations.length,
              listField (reservationEntry s.toRecords) t.reservations, u16 t.onOrder, opt deadlineField t.overdue,
              flag t.overdueRaised, u16 (demand s.toRecords i t),
              s32 ((t.onHand : Int) - t.reservations.length + t.onOrder), u32 (demand s.toRecords i t + t.minimumStock),
              u8 (orderState s.toRecords i t).code, fitted (fun _ => true), fitted (fun l => decide (l = .low)),
              fitted (fun l => decide (l = .empty)), u32 (waitingOf s.toRecords i)])

/-- ORDER_PLACED, DELIVERY_RECEIVED, STOCK_ADJUST and the overdue deadline: what each does to a type's stock and its orders before
the end of the handling hands out free stock and evaluates the order states (R133 to R137). And what the hand-out is: the open
tickets are taken in opening order, and one that waits for stock, whose type has free stock, is given a unit and dispatched at its
level (R131, R148); and what the withdrawal of units is: the newest reservation goes first, and its ticket waits again (R137,
R148). A quantity out of range is refused with RANGE. That an overdue deadline before its time does nothing (logs 1 and 4), the
kind and its detail as two fields of CALLOUT_DISPATCH, what does not apply absent, and the numbers of the order state (log 17), and
the widths of counts, the count of tickets given units among them (log 18), are the model's choice. -/
def Obligations.StockMoved : Prop :=
  (∀ (s : State) (tag : Tag) (i n : Nat) (t : SupplyType), i < 32 → s.spu.types.lookup i = some t →
    let numbers := fun (r : Records) (t : SupplyType) => [s32 t.position, u32 (need r i t), u8 (orderState r i t).code]
    (t.state = .active → (n = 0 ∨ 999 < n) →
      (Taken s (.orderPlaced tag i n) → exec (.orderPlaced tag i n) s = .next (replied s 0x57 tag .range []))
      ∧ (Taken s (.deliveryReceived tag i n) → exec (.deliveryReceived tag i n) s = .next (replied s 0x58 tag .range []))
      ∧ (n ≠ 0 → Taken s (.stockAdjust tag i n) → exec (.stockAdjust tag i n) s = .next (replied s 0x59 tag .range [])))
    ∧ (t.state = .active → 1 ≤ n → n ≤ 999 →
      (Taken s (.orderPlaced tag i n) →
        let deadline := armed s.fck.uptime ((t.leadDays + 2) * 86400)
        let t' : SupplyType :=
          { t with onOrder := min 999 (t.onOrder + n), overdue := some deadline, overdueRaised := false }
        let w := s.work.setType i t'
        exec (.orderPlaced tag i n) s =
          .next (worked s 0x57 tag (orderPoint w) .ok
            ([u32 (t'.onOrder - t.onOrder), u16 t'.onOrder, u32 deadline.value] ++ numbers w.toRecords t')))
      ∧ (Taken s (.deliveryReceived tag i n) →
          let ended := decide (t.onOrder ≤ n)
          let t' : SupplyType :=
            { t with
              onHand := min 999 (t.onHand + n), onOrder := t.onOrder - n, overdue := if ended then none else t.overdue
              overdueRaised := !ended && t.overdueRaised }
          let w := endHandling (s.work.setType i t')
          ∃ t2, w.spu.types.lookup i = some t2 ∧
            exec (.deliveryReceived tag i n) s =
              .next (worked s 0x58 tag w .ok
                ([u32 (t'.onHand - t.onHand), u16 t2.onHand, u16 t2.reservations.length, u16 t2.onOrder,
                  u32 (waitingTickets s.toRecords - waitingTickets w.toRecords)] ++ numbers w.toRecords t2))))
    ∧ (t.state = .active → n ≤ 999 → Taken s (.stockAdjust tag i n) →
        let cut := withdrawUnits i (t.reservations.length - n) (s.work.setType i { t with onHand := n })
        let w := endHandling cut
        ∃ t2, w.spu.types.lookup i = some t2 ∧
          exec (.stockAdjust tag i n) s =
            .next (worked s 0x59 tag w .ok
              ([u16 t.onHand, u16 t2.onHand, u32 (t.reservations.length - n),
                u32 (waitingTickets cut.toRecords - waitingTickets w.toRecords)] ++ numbers w.toRecords t2)))
    ∧ ∀ d, t.overdue = some d → s.lnk.mainPower = true →
        (fallen s.fck.uptime d → 0 < t.onOrder →
          exec (.overdueDeadline i) s =
            .next (passed s ((s.work.setType i { t with overdue := none, overdueRaised := true }).raise .orderOverdue i
              [u8 i, u16 t.onOrder, u32 d.value, u8 (orderState s.toRecords i t).code])))
        ∧ (fallen s.fck.uptime d → t.onOrder = 0 →
            exec (.overdueDeadline i) s = .next (passed s (s.work.setType i { t with overdue := none })))
        ∧ (¬fallen s.fck.uptime d → exec (.overdueDeadline i) s = .next (passed s s.work)))
  ∧ (∀ (w : Work) (t : Ticket),
      let level := fun l : Nat => if l = 0 then w.cou.ack0 else if l = 1 then w.cou.ack1 else if l = 2 then w.cou.ack2
        else w.cou.ack3
      handOut w = w.cou.tickets.foldl handUnit w
      ∧ (t.state ≠ .waitingStock → handUnit w t = w)
      ∧ ∀ l slot ty, t.state = .waitingStock → t.kind = .supply l →
          w.spu.slots.lookup (slotKey t.printer l) = some slot → w.spu.types.lookup slot.supplyType = some ty →
          let deadline := armed w.fck.uptime (level t.level)
          let t' : Ticket := { t with state := .dispatched, deadline := some deadline, holdsUnit := true }
          let held := w.setType slot.supplyType { ty with reservations := ty.reservations ++ [slotKey t.printer l] }
          (ty.onHand ≤ ty.reservations.length → handUnit w t = w)
          ∧ (ty.reservations.length < ty.onHand →
              handUnit w t =
                (held.setTickets (w.cou.tickets.map (fun u => if u.number = t.number then t' else u))).raise
                  .calloutDispatch t.number
                  [u32 t.number, u8 t.printer, u8 t.kind.code, u8 l.code, u8 1, u8 t.level, u32 deadline.value, u32 t.arisen,
                    u32 t.opened, u8 1]))
  ∧ ∀ (w : Work) (i n : Nat),
      withdrawUnits i 0 w = w
      ∧ ∀ ty key older, w.spu.types.lookup i = some ty → ty.reservations = older ++ [key] →
          let cut := w.setType i { ty with reservations := older }
          (ticketOfSlot? w.toRecords key = none → withdrawUnits i (n + 1) w = withdrawUnits i n cut)
          ∧ ∀ t, ticketOfSlot? w.toRecords key = some t →
              let t' : Ticket := { t with state := .waitingStock, deadline := none, holdsUnit := false }
              withdrawUnits i (n + 1) w =
                withdrawUnits i n
                  ((cut.setTickets (w.cou.tickets.map (fun u => if u.number = t.number then t' else u))).raise
                    .calloutDispatch t.number
                    [u32 t.number, u8 t.printer, u8 t.kind.code, opt u8 t.kind.detail, u8 0, u8 t.level, .absent, u32 t.arisen,
                      u32 t.opened, u8 0])

/-- CARTRIDGE_INSTALL accepted: the unit its slot's ticket holds, or one from the shelf, or none, is used; the slot holds a full
cartridge and keeps its average; the slot's ticket is resolved; SLOT_LEVEL announces a slot that was not OK (R115, R138, R139,
R140). And its refusals: RANGE for a slot letter or a slot the printer does not have, RETIRING for the printer or the type (R138).
And what the new cartridge brings: the slot's SUPPLY ticket leaves the table and CALLOUT_RESOLVED is raised with INSTALLED, or,
without one, its owed cause is dropped without a notice (R149, R151); SLOT_LEVEL with cause INSTALL carries the state the slot
held, and an OK slot raises none (R118, R140). The flag of CALLOUT_RESOLVED that a unit was given back (log 28), that SLOT_LEVEL
stands before the notices of the handling's end (log 15), and the slot of a withdrawn reservation as one compound field, the absent
previous state of an unfitted slot and the numbers of unit sources and order states (log 17), are the model's choice. -/
def Obligations.CartridgeInstalled : Prop :=
  (∀ (s : State) (tag : Tag) (i letter k : Nat), Taken s (.cartridgeInstall tag i letter k) →
    let refused := fun o : ReplyOutcome => exec (.cartridgeInstall tag i letter k) s = .next (replied s 0x55 tag o [])
    (3 < letter → refused .range)
    ∧ ∀ (l : SlotLetter) (q : Printer), i < 96 → k < 32 → slotLetter? letter = some l → s.ptb.printers.lookup i = some q →
        (∀ accepted, q.state = .retiring accepted → refused .retiring)
        ∧ ((∀ accepted, q.state ≠ .retiring accepted) →
            (l ≠ .k → q.slotCount ≠ 4 → refused .range)
            ∧ ∀ t, (l = .k ∨ q.slotCount = 4) → s.spu.types.lookup k = some t → t.state = .retiring → refused .retiring))
  ∧ (∀ (w : Work) (i : Nat) (l : SlotLetter) (gaveBack : Bool) (slot : Slot),
      w.spu.slots.lookup (slotKey i l) = some slot →
      let its := fun t : Ticket => t.printer = i ∧ t.kind = .supply l
      let told := fun previous : Field =>
        w.raise .slotLevel (slotKey i l)
          [u8 i, u8 l.code, u8 slot.supplyType, previous, u8 slot.state.code, u8 3, u8 slot.level, u32 slot.remaining,
            u32 slot.average, u16 slot.projected, flag slot.corrected]
      ((∀ t ∈ w.cou.tickets, ¬its t) →
        ticketOfSlot? w.toRecords (slotKey i l) = none
        ∧ tellInstalled (slotKey i l) gaveBack w =
            w.setBacklog (w.cou.backlog.filter (fun o => !decide (o.printer = i ∧ o.kind = .supply l))))
      ∧ (∀ before t after, w.cou.tickets = before ++ t :: after → (∀ u ∈ before, ¬its u) → its t →
          ticketOfSlot? w.toRecords (slotKey i l) = some t
          ∧ tellInstalled (slotKey i l) gaveBack w =
              (w.setTickets (w.cou.tickets.filter (fun u => u.number != t.number))).raise .calloutResolved t.number
                [u32 t.number, u8 i, u8 3, u8 l.code, u8 2, u8 t.state.code, u8 t.level, flag gaveBack])
      ∧ announceInstall i l none w = told .absent
      ∧ ∀ old : Slot, (old.state = .ok → announceInstall i l (some old) w = w)
          ∧ (old.state ≠ .ok → announceInstall i l (some old) w = told (u8 old.state.code)))
  ∧ ∀ (s : State) (tag : Tag) (i letter k : Nat) (l : SlotLetter) (q : Printer) (t : SupplyType),
    Taken s (.cartridgeInstall tag i letter k) → i < 96 → k < 32 → slotLetter? letter = some l →
    s.ptb.printers.lookup i = some q → (∀ accepted, q.state ≠ .retiring accepted) → (l = .k ∨ q.slotCount = 4) →
    s.spu.types.lookup k = some t → t.state = .active →
    let key := slotKey i l
    let old := s.spu.slots.lookup key
    let ticket := ticketOfSlot? s.toRecords key
    let average := (old.map (·.average)).getD 0
    let slot : Slot :=
      { supplyType := k, capacity := t.ratedYield * 2000, remaining := t.ratedYield * 2000, today := 0, average
        seeded := (old.map (·.seeded)).getD false, level := 100, projected := projectedDays (t.ratedYield * 2000) average
        state := .ok, corrected := false, sides := 0 }
    ((t.colour ≠ l ∨ t.modelGroup ≠ q.modelGroup) →
      exec (.cartridgeInstall tag i letter k) s = .next (replied s 0x55 tag .mismatch []))
    ∧ (t.colour = l → t.modelGroup = q.modelGroup →
        let installed := fun (source : Nat) (withdrawn : Option Nat) (gaveBack : Bool) (drawn : Work) =>
          let w := endHandling (announceInstall i l old (tellInstalled key gaveBack (drawn.setSlot key slot)))
          ∃ t2, w.spu.types.lookup k = some t2 ∧
            exec (.cartridgeInstall tag i letter k) s =
              .next (worked s 0x55 tag w .ok
                [u32 slot.capacity, u32 average, u8 source,
                  opt (fun e => compound [u8 (e / 4), u8 (e % 4)]) withdrawn, opt (fun t => u32 t.number) ticket,
                  u16 t2.onHand, u16 t2.reservations.length, u8 (orderState w.toRecords k t2).code])
        let short := t.reservations.length - (t.onHand - 1)
        let fromShelf := fun w : Work => withdrawUnits k short (w.setType k { t with onHand := t.onHand - 1 })
        let withdrawn := if 0 < short then t.reservations.getLast? else none
        let source := if t.onHand = 0 then 2 else 1
        ((∀ c, ticket = some c → c.holdsUnit = false) → installed source withdrawn false (fromShelf s.work))
        ∧ (∀ c, ticket = some c → c.holdsUnit = true → fittedType? s.toRecords key = some k →
            installed 0 none false
              (s.work.setType k { t with onHand := t.onHand - 1, reservations := t.reservations.erase key }))
        ∧ ∀ c, ticket = some c → c.holdsUnit = true → fittedType? s.toRecords key ≠ some k →
            installed source withdrawn true (fromShelf (giveBackUnit key s.work)))

/-- A colour's consumption, applied to its slot: what remains, the use counted, the level and the projection, the level state it
brings, and what a change of level state raises; an unfitted slot is passed over (R108, R110, R112, R113, R116, R118). And a sensor
reading: LOW above low % and OUT above 0 lower what remains and raise SLOT_LEVEL, a slot that becomes EMPTY makes a SUPPLY cause,
and the order states are evaluated (R117, R118, R133); that any other reading evaluates nothing (log 37), and that a reading's
evaluation of the order states stands behind its other notices (log 15), are the model's choice. -/
def Obligations.TonerConsumed : Prop :=
  (∀ (w : Work) (p units sides : Nat) (l : SlotLetter),
    (w.spu.slots.lookup (slotKey p l) = none → consume p units sides l w = w)
    ∧ (∀ c t, w.spu.slots.lookup (slotKey p l) = some c → w.spu.types.lookup c.supplyType = some t →
        let remaining := c.remaining - units
        let level := remaining * 100 / c.capacity
        let projected := if c.average = 0 then 999 else min 999 (remaining / c.average)
        let state : LevelState :=
          if c.state = .empty ∨ remaining = 0 then .empty
          else if c.state = .low ∨ level ≤ t.lowPercent ∨ projected ≤ t.leadDays + t.safetyDays then .low
          else .ok
        let used := w.setSlot (slotKey p l)
          { c with
            remaining, today := min (c.today + units) 4294967295, sides := min (c.sides + sides) 4294967295, level, projected
            state }
        let announced := fun w : Work =>
          w.raise .slotLevel (slotKey p l)
            [u8 p, u8 l.code, u8 c.supplyType, u8 c.state.code, u8 state.code, u8 0, u8 level, u32 remaining, u32 c.average,
              u16 projected, flag c.corrected]
        (state = c.state → consume p units sides l w = used)
        ∧ (state ≠ c.state → state = .low → consume p units sides l w = announced used)
        ∧ (state ≠ c.state → state = .empty → consume p units sides l w = announced (arise p (.supply l) used)))
    ∧ ∀ size sum, consumption size sum sides = min sum (10000 * sides) * (match size with
        | .small => 2
        | .standard => 4
        | .large => 8))
  ∧ ∀ (w : Work) (p : Nat) (l : SlotLetter) (reading : Reading),
      (w.spu.slots.lookup (slotKey p l) = none → readSensor p l reading w = w)
      ∧ ∀ c t, w.spu.slots.lookup (slotKey p l) = some c → w.spu.types.lookup c.supplyType = some t →
          ((reading = .ok ∨ reading = .low ∧ c.level ≤ t.lowPercent ∨ reading = .out ∧ c.remaining = 0) →
            readSensor p l reading w = w)
          ∧ ∀ remaining,
              (reading = .low ∧ t.lowPercent < c.level ∧ remaining = c.capacity * t.lowPercent / 100
                ∨ reading = .out ∧ c.remaining ≠ 0 ∧ remaining = 0) →
              let level := remaining * 100 / c.capacity
              let projected := if c.average = 0 then 999 else min 999 (remaining / c.average)
              let state : LevelState :=
                if c.state = .empty ∨ remaining = 0 then .empty
                else if c.state = .low ∨ level ≤ t.lowPercent ∨ projected ≤ t.leadDays + t.safetyDays then .low
                else .ok
              let corrected := w.setSlot (slotKey p l) { c with remaining, corrected := true, level, projected, state }
              let caused := if state = .empty ∧ c.state ≠ .empty then arise p (.supply l) corrected else corrected
              readSensor p l reading w =
                orderPoint (caused.raise .slotLevel (slotKey p l)
                  [u8 p, u8 l.code, u8 c.supplyType, u8 c.state.code, u8 state.code, u8 2, u8 level, u32 remaining,
                    u32 c.average, u16 projected, u8 1])

/-! ### Callouts and the clock -/

/-- CALLOUT_READ, CALLOUT_LIST and CLOCK_READ (R153, R173). How compound and absent fields are laid out, that CALLOUT_READ's
position is counted from 0, and the widths of counts, are the model's choice (logs 17 and 18). The seconds of a roll deadline that was armed at the last uptime, and so never falls due,
are a free value, of which nothing is said (log 39). -/
def Obligations.CalloutAndClockRead : Prop :=
  ∀ (s : State) (tag : Tag) (n : Nat),
    (Taken s (.calloutRead tag n) →
      (n = 0 → exec (.calloutRead tag n) s = .next (replied s 0x60 tag .range []))
      ∧ (n ≠ 0 → (∀ t ∈ s.cou.tickets, t.number ≠ n) →
          exec (.calloutRead tag n) s = .next (replied s 0x60 tag .noRecord []))
      ∧ ∀ before t after, n ≠ 0 → s.cou.tickets = before ++ t :: after → t.number = n →
          (∀ u ∈ before, u.number ≠ n) →
          exec (.calloutRead tag n) s =
            .next (replied s 0x60 tag .ok
              [u32 n, u8 t.printer, compound (kindParts t.kind), u8 t.state.code, u8 t.level, u32 t.arisen, u32 t.opened,
                opt deadlineField t.deadline, if t.kind.slot?.isSome then flag t.holdsUnit else .absent,
                u32 before.length]))
    ∧ (∀ selection, Taken s (.calloutList tag selection n) →
        let page := fun (entries : List Byte) (count : Nat) =>
          exec (.calloutList tag selection n) s =
            .next (replied s 0x61 tag .ok
              [u8 s.cou.tickets.length, u16 s.cou.backlog.length, flag s.cou.alarm, .bytes entries, u32 (n + count)])
        (2 ≤ selection → exec (.calloutList tag selection n) s = .next (replied s 0x61 tag .range []))
        ∧ (selection = 0 →
            let tickets := (s.cou.tickets.drop n).take 4
            page (tickets.flatMap (fun t =>
              beBytes 4 t.number ++ beBytes 1 t.printer ++ (kindParts t.kind).flatMap Field.encode ++ beBytes 1 t.state.code
                ++ beBytes 1 t.level ++ (optPart 4 (t.deadline.map (·.value))).flatMap Field.encode
                ++ (optPart 1 (t.kind.slot?.map (fun _ => t.holdsUnit.toNat))).flatMap Field.encode)) tickets.length)
        ∧ (selection = 1 →
            let entries := (s.cou.backlog.drop n).take 4
            page (entries.flatMap (fun o =>
              beBytes 1 o.printer ++ (kindParts o.kind).flatMap Field.encode ++ beBytes 4 o.owed)) entries.length))
    ∧ (Taken s (.clockRead tag) →
        ∃ seconds : Nat, (∀ d, s.fck.roll = some d → d.dormant = false → seconds = d.value - s.fck.uptime)
          ∧ exec (.clockRead tag) s =
              .next (replied s 0x71 tag .ok
                [u32 s.fck.uptime, s48 s.fck.offset, u40 (min (s.fck.uptime + s.fck.offset).toNat 1099511627775),
                  flag s.fck.clockSet, opt (fun d => u32 d.value) s.fck.roll, opt (fun _ => u32 seconds) s.fck.roll,
                  u16 s.fck.dayIndex, u8 s.fck.countdown, u8 s.qtu.periodLength]))

/-- CALLOUT_ACK, CALLOUT_CLOSE and the two deadlines of a ticket: acknowledgement arms the work deadline; closing resolves the
ticket and gives back its unit; a deadline that falls due dispatches the ticket one level higher, at most 3, and the alarm is
evaluated (R146, R147, R149, R150, R152, R155). And how a cause gets its ticket: while fewer than 64 are open it opens one, with
the next number not in use, dispatched, or for SUPPLY dispatched with a unit of free stock or left waiting (R130, R143, R145); and
else it is owed (R151). And what a resolution is (R149), and what the end of a handling does: the hand-out, the owed causes into
free slots, the alarm, the order states (R131, R133, R151, R152). A ticket number of 0 is refused with RANGE, and one no open
ticket holds with NO_RECORD (R147, R150). That an event whose time has not come does nothing (logs 1 and 4), that the tickets of
one event are resolved in opening order, where R149 gives none (log 11), the order at a handling's end (log 15), and the layout of
a cause's kind, one field in CALLOUT_CLOSE's reply and two in notices (log 17), are the model's choice. -/
def Obligations.CalloutsWorked : Prop :=
  (∀ (s : State) (tag : Tag) (n : Nat) (c : Instr) (code : Nat), Taken s c → c.request? = some (code, tag) →
    c ∈ [.calloutAck tag n, .calloutClose tag n] →
    (n = 0 → exec c s = .next (replied s code tag .range []))
    ∧ (n ≠ 0 → (∀ t ∈ s.cou.tickets, t.number ≠ n) → exec c s = .next (replied s code tag .noRecord [])))
  ∧ (∀ (s : State) (tag : Tag) (n : Nat) (t : Ticket), n ≠ 0 → ticket? s.toRecords n = some t →
    let replaced := fun (t : Ticket) (w : Work) =>
      w.setTickets (w.cou.tickets.map (fun u => if u.number = n then t else u))
    (Taken s (.calloutAck tag n) →
      let deadline := armed s.fck.uptime s.cou.workTime
      (t.state = .dispatched →
        exec (.calloutAck tag n) s =
          .next (worked s 0x62 tag (replaced { t with state := .acknowledged, deadline := some deadline } s.work) .ok
            [u8 t.level, u32 deadline.value]))
      ∧ (t.state ≠ .dispatched → exec (.calloutAck tag n) s = .next (replied s 0x62 tag .state [])))
    ∧ (Taken s (.calloutClose tag n) →
        let gaveBack := t.key?.isSome && t.holdsUnit
        let freed := match t.key? with
          | some key => if t.holdsUnit then giveBackUnit key s.work else s.work
          | none => s.work
        exec (.calloutClose tag n) s =
          .next (worked s 0x63 tag
            (endHandling ((freed.setTickets (s.cou.tickets.filter (fun u => u.number != n))).raise .calloutResolved n
              [u32 n, u8 t.printer, u8 t.kind.code, opt u8 t.kind.detail, u8 5, u8 t.state.code, u8 t.level,
                flag gaveBack])) .ok
            [compound (kindParts t.kind), u8 t.printer, u8 t.state.code, u8 t.level, flag gaveBack]))
    ∧ ∀ d, t.deadline = some d → s.lnk.mainPower = true →
        let level := min (t.level + 1) 3
        let time := if level = 0 then s.cou.ack0 else if level = 1 then s.cou.ack1 else if level = 2 then s.cou.ack2
          else s.cou.ack3
        let t' : Ticket := { t with state := .dispatched, level, deadline := some (armed s.fck.uptime time) }
        let escalated := evaluateAlarm ((replaced t' s.work).raise .calloutDispatch n
          [u32 n, u8 t.printer, u8 t.kind.code, opt u8 t.kind.detail, u8 1, u8 level, u32 (armed s.fck.uptime time).value,
            u32 t.arisen, u32 t.opened, if t.kind.slot?.isSome then flag t.holdsUnit else .absent])
        (t.state = .dispatched → fallen s.fck.uptime d →
          exec (.acknowledgementDeadline n) s = .next (passed s escalated))
        ∧ (t.state = .acknowledged → fallen s.fck.uptime d → exec (.workDeadline n) s = .next (passed s escalated))
        ∧ (¬fallen s.fck.uptime d →
            exec (.acknowledgementDeadline n) s = .next (passed s s.work)
            ∧ exec (.workDeadline n) s = .next (passed s s.work)))
  ∧ (∀ (w : Work) (p arisen : Nat) (kind : CauseKind),
      (w.cou.tickets.length < 64 → arise p kind w = openTicket p kind w.fck.uptime w)
      ∧ (64 ≤ w.cou.tickets.length →
          arise p kind w = w.setBacklog (w.cou.backlog ++ [{ printer := p, kind, owed := w.fck.uptime }]))
      ∧ (w.cou.tickets.length < 64 → ∃ n, 1 ≤ n ∧ n ≤ 4294967295 ∧ (∀ t ∈ w.cou.tickets, t.number ≠ n)
          ∧ nextNumber 4294967295 (w.cou.tickets.map (·.number)) w.cou.lastTicket n
          ∧ (let joined := fun (t : Ticket) (w : Work) =>
              { w with cou := { w.cou with tickets := w.cou.tickets ++ [t], lastTicket := n } }
            let waiting : Ticket :=
              { number := n, printer := p, kind, state := .waitingStock, level := 0, arisen, opened := w.fck.uptime
                deadline := none, holdsUnit := false }
            let deadline := armed w.fck.uptime w.cou.ack0
            let sent := fun (held : Bool) (w : Work) =>
              (joined { waiting with state := .dispatched, deadline := some deadline, holdsUnit := held } w).raise
                .calloutDispatch n
                [u32 n, u8 p, u8 kind.code, opt u8 kind.detail, u8 1, u8 0, u32 deadline.value, u32 arisen, u32 w.fck.uptime,
                  if kind.slot?.isSome then flag held else .absent]
            (kind.slot? = none → openTicket p kind arisen w = sent false w)
            ∧ ∀ l slot ty, kind = .supply l → w.spu.slots.lookup (slotKey p l) = some slot →
                w.spu.types.lookup slot.supplyType = some ty →
                (ty.reservations.length < ty.onHand →
                  openTicket p kind arisen w =
                    sent true (w.setType slot.supplyType { ty with reservations := ty.reservations ++ [slotKey p l] }))
                ∧ (ty.onHand ≤ ty.reservations.length → openTicket p kind arisen w = joined waiting w))))
  ∧ (∀ (w : Work) (o : OwedCause) (rest : List OwedCause),
      openOwedFrom [] w = w.setBacklog []
      ∧ (w.cou.tickets.length < 64 → openOwedFrom (o :: rest) w = openOwedFrom rest (openTicket o.printer o.kind o.owed w))
      ∧ (64 ≤ w.cou.tickets.length → openOwedFrom (o :: rest) w = w.setBacklog (o :: rest))
      ∧ evaluateAlarm w =
          { w with cou := { w.cou with
              alarm := decide (w.cou.alarmLevel < 4 ∧ ∃ t ∈ w.cou.tickets, w.cou.alarmLevel ≤ t.level) } }
      ∧ endHandling w = orderPoint (evaluateAlarm (openOwedFrom (handOut w).cou.backlog (handOut w))))
  ∧ ∀ (w : Work) (t : Ticket) (reason : ResolveReason) (p : Ticket → Bool),
      resolveWhere p reason w = (w.cou.tickets.filter p).foldl (resolveTicket reason) w
      ∧ (let resolved := fun (gaveBack : Bool) (w : Work) =>
          (w.setTickets (w.cou.tickets.filter (fun u => u.number != t.number))).raise .calloutResolved t.number
            [u32 t.number, u8 t.printer, u8 t.kind.code, opt u8 t.kind.detail, u8 reason.code, u8 t.state.code, u8 t.level,
              flag gaveBack]
        ((t.kind.slot? = none ∨ t.holdsUnit = false) → resolveTicket reason w t = resolved false w)
        ∧ ∀ l slot ty, t.kind = .supply l → t.holdsUnit = true → w.spu.slots.lookup (slotKey t.printer l) = some slot →
            w.spu.types.lookup slot.supplyType = some ty →
            resolveTicket reason w t =
              resolved true
                (w.setType slot.supplyType { ty with reservations := ty.reservations.erase (slotKey t.printer l) }))

/-- CLOCK_SET and the roll deadline: the first setting starts the clock; a later one is refused with CLOCK_JUMP beyond 172,800 s
and else makes one day roll for each midnight passed; a roll deadline that falls due makes one day roll and is armed a day later
(R169 to R172). Several day rolls are made one after another, and a period roll is among them each time the countdown runs out, the
first where it has run to 0 and then each period length later (R170, R171). That a midnight whose roll deadline has been reached
and not taken is rolled by a forward move, which a deadline that stands before its midnight as the last uptime is not (log 26), the
widths of the two counts of rolls (log 18), and that a roll deadline before its time does nothing (logs 1 and 4), are the model's
choice. -/
def Obligations.ClockSetAndRolled : Prop :=
  (∀ (n : Nat) (w : Work), dayRolls n w = Nat.iterate dayRoll n w)
  ∧ (∀ length n countdown : Nat, 1 ≤ length → 1 ≤ countdown →
      (n < countdown → periodRollsAmong length n countdown = 0)
      ∧ (countdown ≤ n → periodRollsAmong length n countdown = (n - countdown) / length + 1))
  ∧ ∀ (s : State) (tag : Tag) (wall : Nat) (countdown : Option Nat),
    let set := fun rolls : Nat =>
      let moved : Work := { s.work with
        fck := { s.fck with offset := (wall : Int) - s.fck.uptime, clockSet := true } }
      let rolled := dayRolls rolls moved
      let midnight := (min (s.fck.uptime + ((wall : Int) - s.fck.uptime)).toNat 1099511627775 / 86400 + 1) * 86400
      let fck : Fck := { rolled.fck with
        roll := if 1099511627775 < midnight then none
          else some (armAt s.fck.uptime ((midnight : Int) - ((wall : Int) - s.fck.uptime)).toNat)
        countdown := selected 1 62 rolled.fck.countdown countdown }
      exec (.clockSet tag wall countdown) s =
        .next (worked s 0x70 tag { rolled with fck } .ok
          [u40 wall, s48 ((wall : Int) - s.fck.uptime), u32 rolls,
            u32 (periodRollsAmong s.qtu.periodLength rolls s.fck.countdown), u16 fck.dayIndex, u8 fck.countdown,
            opt deadlineField fck.roll])
    (Taken s (.clockSet tag wall countdown) →
      (1099511627775 < wall → exec (.clockSet tag wall countdown) s = .next (replied s 0x70 tag .range []))
      ∧ (wall ≤ 1099511627775 → s.fck.clockSet = false → set 0)
      ∧ (wall ≤ 1099511627775 → s.fck.clockSet = true →
          (s.fck.wall + 172800 < wall ∨ wall + 172800 < s.fck.wall →
            exec (.clockSet tag wall countdown) s = .next (replied s 0x70 tag .clockJump [u40 s.fck.wall]))
          ∧ (wall < s.fck.wall → s.fck.wall ≤ wall + 172800 → set 0)
          ∧ (s.fck.wall ≤ wall → wall ≤ s.fck.wall + 172800 →
              let waits := ∃ d, s.fck.roll = some d ∧ fallen s.fck.uptime d ∧ ((d.value : Int) + s.fck.offset) % 86400 = 0
              (¬waits → set (wall / 86400 - s.fck.wall / 86400))
              ∧ (waits → set (wall / 86400 - s.fck.wall / 86400 + 1)))))
    ∧ ∀ d, s.fck.roll = some d → s.lnk.mainPower = true →
        (¬fallen s.fck.uptime d → exec .rollDeadline s = .next (passed s s.work))
        ∧ (fallen s.fck.uptime d →
            exec .rollDeadline s =
              .next (passed s (dayRoll { s.work with
                fck := { s.fck with
                  roll := rollAt s.fck.uptime s.fck.offset ((d.value : Int) + 86400 + s.fck.offset).toNat } })))

/-- A day roll: the day index and the countdown; a period roll, where the countdown runs out, replenishes each balance; each
account's use of the day moves into its peak; and each fitted slot's average takes one step towards the day's use, and its level
state is evaluated (R31, R33, R34, R114, R116, R170, R171). And the notices: one PERIOD_ROLLED with the new day index and the
numbers of accounts and pools, where the period rolls (R34); a QUOTA_WARNING for each account whose warn state it changed (R27); a
SLOT_LEVEL with cause DAY_ROLL for each slot whose level state it changed (R118); and no others but REORDER_DUE and a
CALLOUT_DISPATCH that an EMPTY slot brings. That the accounts and the slots are taken by rising index is the model's choice (log
11). -/
def Obligations.DayRolled : Prop :=
  ∀ w : Work, TablesSound w.toRecords →
    let rolls := w.fck.countdown ≤ 1
    let replenish := fun (balance : Int) (allotment : Nat) => max balance (min (balance + allotment) (2 * allotment))
    (dayRoll w).fck =
        { w.fck with
          dayIndex := (w.fck.dayIndex + 1) % 65536
          countdown := if rolls then w.qtu.periodLength else w.fck.countdown - 1 }
    ∧ (¬rolls →
        (dayRoll w).adir =
          { w.adir with
            accounts := w.adir.accounts.map (fun e => (e.1, { e.2 with peak := max e.2.peak e.2.today, today := 0 })) })
    ∧ (rolls → (dayRoll w).adir.badges = w.adir.badges
        ∧ (∀ i a, w.adir.accounts.lookup i = some a →
            let balance := replenish a.balance a.allotment
            let available : Int := balance - a.reserved + a.overdraft
            (dayRoll w).adir.accounts.lookup i = some
              { a with
                balance, usedPeriod := 0, peak := max a.peak a.today, today := 0
                warned := if a.warned then decide (available < a.warnHigh ∨ available ≤ a.warnLow)
                  else decide (available ≤ a.warnLow) })
        ∧ ∀ i p, w.adir.pools.lookup i = some p →
            (dayRoll w).adir.pools.lookup i = some { p with balance := replenish p.balance p.allotment, usedPeriod := 0 })
    ∧ (∀ key c t, w.spu.slots.lookup key = some c → w.spu.types.lookup c.supplyType = some t →
        ∃ average : Nat,
          (c.seeded = false → average = c.today)
          ∧ (c.seeded = true →
              let step : Int := ((c.today : Int) - c.average).tdiv (2 ^ w.spu.shift)
              (average : Int) = max 0 (c.average + (if step ≠ 0 ∨ c.today = c.average then step
                else if c.average < c.today then 1 else -1)))
          ∧ (let projected := if average = 0 then 999 else min 999 (c.remaining / average)
             let state : LevelState :=
               if c.state = .empty ∨ c.remaining = 0 then .empty
               else if c.state = .low ∨ c.level ≤ t.lowPercent ∨ projected ≤ t.leadDays + t.safetyDays then .low
               else .ok
             (dayRoll w).spu.slots.lookup key = some { c with average, seeded := true, today := 0, projected, state }))
    ∧ ∃ new, (dayRoll w).raised = w.raised ++ new
      ∧ (∀ r ∈ new, r.kind ∈ [.periodRolled, .quotaWarning, .slotLevel, .reorderDue, .calloutDispatch])
      ∧ new.filter (fun r => decide (r.kind = .periodRolled)) =
          (if rolls then
            [{ kind := .periodRolled, key := 0
               body := [u16 ((w.fck.dayIndex + 1) % 65536), u32 w.adir.accounts.length, u32 w.adir.pools.length] }]
          else [])
      ∧ new.filter (fun r => decide (r.kind = .quotaWarning)) =
          w.adir.accounts.filterMap (fun e => match (dayRoll w).adir.accounts.lookup e.1 with
            | none => none
            | some a =>
              if a.warned = e.2.warned then none
              else some
                { kind := .quotaWarning, key := e.1
                  body := [u16 e.1, flag a.warned, s32 (a.balance - a.reserved + a.overdraft), s32 a.balance] })
      ∧ new.filter (fun r => decide (r.kind = .slotLevel)) =
          w.spu.slots.filterMap (fun e => match (dayRoll w).spu.slots.lookup e.1 with
            | none => none
            | some c =>
              if c.state = e.2.state then none
              else some
                { kind := .slotLevel, key := e.1
                  body := [u8 (e.1 / 4), u8 (e.1 % 4), u8 c.supplyType, u8 e.2.state.code, u8 c.state.code, u8 1, u8 c.level,
                    u32 c.remaining, u32 c.average, u16 c.projected, flag c.corrected] })

/-! ### Retirement and reseating -/

/-- ACCOUNT_RETIRE, POOL_RETIRE and SUPPLY_RETIRE accepted, and the completion of an account's retirement, at once or when its last
job in flight has come down (R158 to R161, R165). A RETIRING account is refused with RETIRING (R159). The four-byte count of HELD
jobs removed and the two-byte index of RECORD_RETIRED (log 18), and the fields of RECORD_RETIRED that its kind of record does not
have, which are absent (log 17), are the model's choice. -/
def Obligations.RecordsRetired : Prop :=
  ∀ (s : State) (tag : Tag) (i : Nat),
    (∀ a accepted, Taken s (.accountRetire tag i) → i < 4096 → s.adir.accounts.lookup i = some a →
      a.state = .retiring accepted → exec (.accountRetire tag i) s = .next (replied s 0x17 tag .retiring []))
    ∧ (∀ a, Taken s (.accountRetire tag i) → i < 4096 → s.adir.accounts.lookup i = some a →
      (a.state = .active ∨ a.state = .suspended) →
      let held := (s.hq.lists.list i).filter (isHeld s.toRecords)
      let w := closeAccountVisit i .account (s.work.setAccount i { a with state := .retiring s.fck.uptime })
      exec (.accountRetire tag i) s =
        .next (worked s 0x17 tag
          (completeAccount i (held.foldl (fun w n => removeJob n .ownerRetired 0 w) w)) .ok
          [u32 held.length, u8 a.inFlight, opt u8 a.openVisit, flag (a.inFlight == 0)]))
    ∧ (∀ (w : Work) (a : Account) (accepted : Nat), w.adir.accounts.lookup i = some a → a.state = .retiring accepted →
        (0 < a.inFlight → completeAccount i w = w)
        ∧ (a.inFlight = 0 → a.pool = none →
            completeAccount i w =
              ((w.setBadges (w.adir.badges.filter (fun b => b.account != i))).dropAccount i).raise .recordRetired i
                [u8 0, u16 i, u32 accepted, u32 w.fck.uptime, s32 a.balance, .absent])
        ∧ (∀ p q, a.inFlight = 0 → a.pool = some p → w.adir.pools.lookup p = some q →
            completeAccount i w =
              (((w.setBadges (w.adir.badges.filter (fun b => b.account != i))).setPool p
                { q with members := q.members - 1 }).dropAccount i).raise .recordRetired i
                [u8 0, u16 i, u32 accepted, u32 w.fck.uptime, s32 a.balance, .absent]))
    ∧ (∀ p, Taken s (.poolRetire tag i) → i < 64 → s.adir.pools.lookup i = some p →
        (0 < p.members → exec (.poolRetire tag i) s = .next (replied s 0x1B tag .state []))
        ∧ (p.members = 0 →
            exec (.poolRetire tag i) s =
              .next (worked s 0x1B tag
                ((s.work.dropPool i).raise .recordRetired (16777216 + i)
                  [u8 1, u16 i, u32 s.fck.uptime, u32 s.fck.uptime, s32 p.balance, .absent]) .ok
                [s32 p.balance])))
    ∧ (∀ t, Taken s (.supplyRetire tag i) → i < 32 → s.spu.types.lookup i = some t → t.state = .active →
        (((∃ e ∈ s.spu.slots, e.2.supplyType = i) ∨ t.reservations ≠ [] ∨ 0 < t.onOrder) →
          exec (.supplyRetire tag i) s = .next (replied s 0x54 tag .state []))
        ∧ ((∀ e ∈ s.spu.slots, e.2.supplyType ≠ i) → t.reservations = [] → t.onOrder = 0 →
            exec (.supplyRetire tag i) s =
              .next (worked s 0x54 tag
                ((s.work.dropType i).raise .recordRetired (50331648 + i)
                  [u8 3, u16 i, u32 s.fck.uptime, u32 s.fck.uptime, .absent, u16 t.onHand]) .ok
                [u16 t.onHand])))

/-- PRINTER_RETIRE and PRINTER_RESEAT accepted, in the order of their steps, and the completion of a printer's retirement; and what
a retirement does to the printers that name it as their sibling, to the jobs pinned to it or rerouted from it, and to its slots
(R53, R121, R162, R164, R166). And what the requests get that name a RETIRING printer as theirs, but for those whose own statements
say it: PRINTER_RETIRE, SERVICE_WITHDRAW and SERVICE_RETURN RETIRING, PRINTER_RESEAT STATE, and a key at its IDLE terminal STATE
(R163). R162 says that its outcome does not depend on which block acts first: that the notices stand in the order of the steps is
the model's choice (log 11), and so are the absent and compound fields and the widths of counts (logs 17 and 18). -/
def Obligations.PrinterRetiredAndReseated : Prop :=
  (∀ (s : State) (tag : Tag) (i : Nat) (q : Printer) (accepted : Nat) (c : Instr) (code : Nat), Taken s c →
    c.request? = some (code, tag) → i < 96 → s.ptb.printers.lookup i = some q → q.state = .retiring accepted →
    (c ∈ [.printerRetire tag i, .serviceWithdraw tag i, .serviceReturn tag i] →
      exec c s = .next (replied s code tag .retiring []))
    ∧ (c = .printerReseat tag i → exec c s = .next (replied s code tag .state []))
    ∧ (c ∈ [.next tag i, .previous tag i, .select tag i, .selectAll tag i, .delete tag i, .done tag i] →
        s.rlu.visits.lookup i = none → exec c s = .next (replied s code tag .state [])))
  ∧ ∀ (s : State) (tag : Tag) (i : Nat) (q : Printer), i < 96 → s.ptb.printers.lookup i = some q →
    (∀ accepted, q.state ≠ .retiring accepted) →
    let idle : Printer :=
      { q with qualification := [], heartbeat := none, absence := none, restart := none, restartCredit := none }
    let announced := fun (q' : Printer) (w : Work) =>
      w.raise .printerState i
        [u8 i, u8 q.state.code, u8 q'.state.code, .bytes [0, 0, 0], flag q'.present, flag q'.restartUsed, u8 q'.live.toNat,
          u8 q'.latched.toNat]
    (Taken s (.printerRetire tag i) →
      let q' : Printer :=
        { idle with
          state := .retiring s.fck.uptime, sibling := if q.sibling = some i then none else q.sibling }
      let gone := closeVisit i .service (announced q' (clearSiblings i (s.work.setPrinter i q')))
      let w := resolveWhere (fun t => t.printer == i) .retired
        (dropOwed (fun o => o.printer == i) (retargetJobs i q.floor gone))
      let flying := (inFlightList s.toRecords i).length
      exec (.printerRetire tag i) s =
        .next (worked s 0x48 tag (completePrinter i (endHandling (unfitSlots i w))) .ok
          [u8 q.state.code, u8 flying,
            u32 (s.hq.jobs.filter (fun e => decide (e.2.target = .printer i))).length,
            u32 (s.cou.tickets.filter (fun t => t.printer == i)).length, flag (flying == 0)]))
    ∧ (Taken s (.printerReseat tag i) →
        let q' : Printer :=
          { idle with state := .absent, present := false, live := 0, latched := 0, restartUsed := false }
        let w := returnReleasing i none (closeVisit i .service (announced q' (s.work.setPrinter i q')))
        exec (.printerReseat tag i) s =
          .next (worked s 0x49 tag
            (completeAccounts (releasingOwners s.toRecords i)
              (endHandling (resolveWhere (fun t => t.printer == i && t.kind.slot?.isNone) .reseat
                (dropOwed (fun o => o.printer == i && o.kind.slot?.isNone) w)))) .ok
            [u8 q.state.code, u32 (releasingAt s.toRecords i).length,
              u32 (s.cou.tickets.filter (fun t => t.printer == i && t.kind.slot?.isNone)).length]))
    ∧ (∀ (w : Work) (floor : Nat),
        clearSiblings i w =
            { w with ptb := { w.ptb with
                printers := w.ptb.printers.map (fun e =>
                  (e.1, { e.2 with sibling := if e.2.sibling = some i then none else e.2.sibling })) } }
        ∧ retargetJobs i floor w =
            { w with hq := { w.hq with
                jobs := w.hq.jobs.map (fun e =>
                  (e.1, { e.2 with
                    target := if e.2.target = .printer i then .floor floor else e.2.target
                    reroutedFrom := if e.2.reroutedFrom = some i then none else e.2.reroutedFrom })) } }
        ∧ ∀ p l, (unfitSlots i w).spu.slots.lookup (slotKey p l) =
            if p = i then none else w.spu.slots.lookup (slotKey p l))
    ∧ ∀ (w : Work) (p : Printer) (accepted : Nat), w.ptb.printers.lookup i = some p → p.state = .retiring accepted →
        (inFlightList w.toRecords i ≠ [] → completePrinter i w = w)
        ∧ (inFlightList w.toRecords i = [] →
            completePrinter i w =
              ((w.dropPrinter i).raise .printerState i
                  [u8 i, u8 6, u8 0, .absent, .absent, .absent, .absent, .absent]).raise .recordRetired (33554432 + i)
                [u8 2, u16 i, u32 accepted, u32 w.fck.uptime, .absent, .absent])

end
end

