-- ==== Sys2Proof/Laws/State.lean ====
section
/-! SUPPORT. What each write of one record leaves: one lemma per field, so that no proof unfolds a record update. -/

namespace Sys2Proof.Machine

@[simp] theorem Work.setAccount_qtu (w : Work) (i : Nat) (a : Account) : (w.setAccount i a).qtu = w.qtu := rfl
@[simp] theorem Work.setAccount_hq (w : Work) (i : Nat) (a : Account) : (w.setAccount i a).hq = w.hq := rfl
@[simp] theorem Work.setAccount_rlu (w : Work) (i : Nat) (a : Account) : (w.setAccount i a).rlu = w.rlu := rfl
@[simp] theorem Work.setAccount_ptb (w : Work) (i : Nat) (a : Account) : (w.setAccount i a).ptb = w.ptb := rfl
@[simp] theorem Work.setAccount_spu (w : Work) (i : Nat) (a : Account) : (w.setAccount i a).spu = w.spu := rfl
@[simp] theorem Work.setAccount_cou (w : Work) (i : Nat) (a : Account) : (w.setAccount i a).cou = w.cou := rfl
@[simp] theorem Work.setAccount_fck (w : Work) (i : Nat) (a : Account) : (w.setAccount i a).fck = w.fck := rfl
@[simp] theorem Work.setAccount_raised (w : Work) (i : Nat) (a : Account) : (w.setAccount i a).raised = w.raised := rfl
@[simp] theorem Work.setAccount_due (w : Work) (i : Nat) (a : Account) : (w.setAccount i a).due = w.due := rfl
@[simp] theorem Work.setAccount_now (w : Work) (i : Nat) (a : Account) : (w.setAccount i a).now = w.now := rfl
@[simp] theorem Work.setAccount_pools (w : Work) (i : Nat) (a : Account) : (w.setAccount i a).adir.pools = w.adir.pools := rfl
@[simp] theorem Work.setAccount_badges (w : Work) (i : Nat) (a : Account) : (w.setAccount i a).adir.badges = w.adir.badges := rfl
@[simp] theorem Work.setAccount_accounts (w : Work) (i : Nat) (a : Account) : (w.setAccount i a).adir.accounts = w.adir.accounts.put i a := rfl

@[simp] theorem Work.dropAccount_qtu (w : Work) (i : Nat) : (w.dropAccount i).qtu = w.qtu := rfl
@[simp] theorem Work.dropAccount_hq (w : Work) (i : Nat) : (w.dropAccount i).hq = w.hq := rfl
@[simp] theorem Work.dropAccount_rlu (w : Work) (i : Nat) : (w.dropAccount i).rlu = w.rlu := rfl
@[simp] theorem Work.dropAccount_ptb (w : Work) (i : Nat) : (w.dropAccount i).ptb = w.ptb := rfl
@[simp] theorem Work.dropAccount_spu (w : Work) (i : Nat) : (w.dropAccount i).spu = w.spu := rfl
@[simp] theorem Work.dropAccount_cou (w : Work) (i : Nat) : (w.dropAccount i).cou = w.cou := rfl
@[simp] theorem Work.dropAccount_fck (w : Work) (i : Nat) : (w.dropAccount i).fck = w.fck := rfl
@[simp] theorem Work.dropAccount_raised (w : Work) (i : Nat) : (w.dropAccount i).raised = w.raised := rfl
@[simp] theorem Work.dropAccount_due (w : Work) (i : Nat) : (w.dropAccount i).due = w.due := rfl
@[simp] theorem Work.dropAccount_now (w : Work) (i : Nat) : (w.dropAccount i).now = w.now := rfl
@[simp] theorem Work.dropAccount_pools (w : Work) (i : Nat) : (w.dropAccount i).adir.pools = w.adir.pools := rfl
@[simp] theorem Work.dropAccount_badges (w : Work) (i : Nat) : (w.dropAccount i).adir.badges = w.adir.badges := rfl
@[simp] theorem Work.dropAccount_accounts (w : Work) (i : Nat) : (w.dropAccount i).adir.accounts = w.adir.accounts.remove i := rfl

@[simp] theorem Work.setPool_qtu (w : Work) (i : Nat) (p : Pool) : (w.setPool i p).qtu = w.qtu := rfl
@[simp] theorem Work.setPool_hq (w : Work) (i : Nat) (p : Pool) : (w.setPool i p).hq = w.hq := rfl
@[simp] theorem Work.setPool_rlu (w : Work) (i : Nat) (p : Pool) : (w.setPool i p).rlu = w.rlu := rfl
@[simp] theorem Work.setPool_ptb (w : Work) (i : Nat) (p : Pool) : (w.setPool i p).ptb = w.ptb := rfl
@[simp] theorem Work.setPool_spu (w : Work) (i : Nat) (p : Pool) : (w.setPool i p).spu = w.spu := rfl
@[simp] theorem Work.setPool_cou (w : Work) (i : Nat) (p : Pool) : (w.setPool i p).cou = w.cou := rfl
@[simp] theorem Work.setPool_fck (w : Work) (i : Nat) (p : Pool) : (w.setPool i p).fck = w.fck := rfl
@[simp] theorem Work.setPool_raised (w : Work) (i : Nat) (p : Pool) : (w.setPool i p).raised = w.raised := rfl
@[simp] theorem Work.setPool_due (w : Work) (i : Nat) (p : Pool) : (w.setPool i p).due = w.due := rfl
@[simp] theorem Work.setPool_now (w : Work) (i : Nat) (p : Pool) : (w.setPool i p).now = w.now := rfl
@[simp] theorem Work.setPool_accounts (w : Work) (i : Nat) (p : Pool) : (w.setPool i p).adir.accounts = w.adir.accounts := rfl
@[simp] theorem Work.setPool_badges (w : Work) (i : Nat) (p : Pool) : (w.setPool i p).adir.badges = w.adir.badges := rfl
@[simp] theorem Work.setPool_pools (w : Work) (i : Nat) (p : Pool) : (w.setPool i p).adir.pools = w.adir.pools.put i p := rfl

@[simp] theorem Work.dropPool_qtu (w : Work) (i : Nat) : (w.dropPool i).qtu = w.qtu := rfl
@[simp] theorem Work.dropPool_hq (w : Work) (i : Nat) : (w.dropPool i).hq = w.hq := rfl
@[simp] theorem Work.dropPool_rlu (w : Work) (i : Nat) : (w.dropPool i).rlu = w.rlu := rfl
@[simp] theorem Work.dropPool_ptb (w : Work) (i : Nat) : (w.dropPool i).ptb = w.ptb := rfl
@[simp] theorem Work.dropPool_spu (w : Work) (i : Nat) : (w.dropPool i).spu = w.spu := rfl
@[simp] theorem Work.dropPool_cou (w : Work) (i : Nat) : (w.dropPool i).cou = w.cou := rfl
@[simp] theorem Work.dropPool_fck (w : Work) (i : Nat) : (w.dropPool i).fck = w.fck := rfl
@[simp] theorem Work.dropPool_raised (w : Work) (i : Nat) : (w.dropPool i).raised = w.raised := rfl
@[simp] theorem Work.dropPool_due (w : Work) (i : Nat) : (w.dropPool i).due = w.due := rfl
@[simp] theorem Work.dropPool_now (w : Work) (i : Nat) : (w.dropPool i).now = w.now := rfl
@[simp] theorem Work.dropPool_accounts (w : Work) (i : Nat) : (w.dropPool i).adir.accounts = w.adir.accounts := rfl
@[simp] theorem Work.dropPool_badges (w : Work) (i : Nat) : (w.dropPool i).adir.badges = w.adir.badges := rfl
@[simp] theorem Work.dropPool_pools (w : Work) (i : Nat) : (w.dropPool i).adir.pools = w.adir.pools.remove i := rfl

@[simp] theorem Work.setBadges_qtu (w : Work) (b : List Binding) : (w.setBadges b).qtu = w.qtu := rfl
@[simp] theorem Work.setBadges_hq (w : Work) (b : List Binding) : (w.setBadges b).hq = w.hq := rfl
@[simp] theorem Work.setBadges_rlu (w : Work) (b : List Binding) : (w.setBadges b).rlu = w.rlu := rfl
@[simp] theorem Work.setBadges_ptb (w : Work) (b : List Binding) : (w.setBadges b).ptb = w.ptb := rfl
@[simp] theorem Work.setBadges_spu (w : Work) (b : List Binding) : (w.setBadges b).spu = w.spu := rfl
@[simp] theorem Work.setBadges_cou (w : Work) (b : List Binding) : (w.setBadges b).cou = w.cou := rfl
@[simp] theorem Work.setBadges_fck (w : Work) (b : List Binding) : (w.setBadges b).fck = w.fck := rfl
@[simp] theorem Work.setBadges_raised (w : Work) (b : List Binding) : (w.setBadges b).raised = w.raised := rfl
@[simp] theorem Work.setBadges_due (w : Work) (b : List Binding) : (w.setBadges b).due = w.due := rfl
@[simp] theorem Work.setBadges_now (w : Work) (b : List Binding) : (w.setBadges b).now = w.now := rfl
@[simp] theorem Work.setBadges_accounts (w : Work) (b : List Binding) : (w.setBadges b).adir.accounts = w.adir.accounts := rfl
@[simp] theorem Work.setBadges_pools (w : Work) (b : List Binding) : (w.setBadges b).adir.pools = w.adir.pools := rfl
@[simp] theorem Work.setBadges_badges (w : Work) (b : List Binding) : (w.setBadges b).adir.badges = b := rfl

@[simp] theorem Work.setJob_adir (w : Work) (n : Nat) (j : Job) : (w.setJob n j).adir = w.adir := rfl
@[simp] theorem Work.setJob_qtu (w : Work) (n : Nat) (j : Job) : (w.setJob n j).qtu = w.qtu := rfl
@[simp] theorem Work.setJob_rlu (w : Work) (n : Nat) (j : Job) : (w.setJob n j).rlu = w.rlu := rfl
@[simp] theorem Work.setJob_ptb (w : Work) (n : Nat) (j : Job) : (w.setJob n j).ptb = w.ptb := rfl
@[simp] theorem Work.setJob_spu (w : Work) (n : Nat) (j : Job) : (w.setJob n j).spu = w.spu := rfl
@[simp] theorem Work.setJob_cou (w : Work) (n : Nat) (j : Job) : (w.setJob n j).cou = w.cou := rfl
@[simp] theorem Work.setJob_fck (w : Work) (n : Nat) (j : Job) : (w.setJob n j).fck = w.fck := rfl
@[simp] theorem Work.setJob_raised (w : Work) (n : Nat) (j : Job) : (w.setJob n j).raised = w.raised := rfl
@[simp] theorem Work.setJob_due (w : Work) (n : Nat) (j : Job) : (w.setJob n j).due = w.due := rfl
@[simp] theorem Work.setJob_now (w : Work) (n : Nat) (j : Job) : (w.setJob n j).now = w.now := rfl
@[simp] theorem Work.setJob_lists (w : Work) (n : Nat) (j : Job) : (w.setJob n j).hq.lists = w.hq.lists := rfl
@[simp] theorem Work.setJob_lastJob (w : Work) (n : Nat) (j : Job) : (w.setJob n j).hq.lastJob = w.hq.lastJob := rfl
@[simp] theorem Work.setJob_holdHours (w : Work) (n : Nat) (j : Job) : (w.setJob n j).hq.holdHours = w.hq.holdHours := rfl
@[simp] theorem Work.setJob_jobs (w : Work) (n : Nat) (j : Job) : (w.setJob n j).hq.jobs = w.hq.jobs.put n j := rfl

@[simp] theorem Work.dropJob_adir (w : Work) (n : Nat) : (w.dropJob n).adir = w.adir := rfl
@[simp] theorem Work.dropJob_qtu (w : Work) (n : Nat) : (w.dropJob n).qtu = w.qtu := rfl
@[simp] theorem Work.dropJob_rlu (w : Work) (n : Nat) : (w.dropJob n).rlu = w.rlu := rfl
@[simp] theorem Work.dropJob_ptb (w : Work) (n : Nat) : (w.dropJob n).ptb = w.ptb := rfl
@[simp] theorem Work.dropJob_spu (w : Work) (n : Nat) : (w.dropJob n).spu = w.spu := rfl
@[simp] theorem Work.dropJob_cou (w : Work) (n : Nat) : (w.dropJob n).cou = w.cou := rfl
@[simp] theorem Work.dropJob_fck (w : Work) (n : Nat) : (w.dropJob n).fck = w.fck := rfl
@[simp] theorem Work.dropJob_raised (w : Work) (n : Nat) : (w.dropJob n).raised = w.raised := rfl
@[simp] theorem Work.dropJob_due (w : Work) (n : Nat) : (w.dropJob n).due = w.due := rfl
@[simp] theorem Work.dropJob_now (w : Work) (n : Nat) : (w.dropJob n).now = w.now := rfl
@[simp] theorem Work.dropJob_lists (w : Work) (n : Nat) : (w.dropJob n).hq.lists = w.hq.lists := rfl
@[simp] theorem Work.dropJob_lastJob (w : Work) (n : Nat) : (w.dropJob n).hq.lastJob = w.hq.lastJob := rfl
@[simp] theorem Work.dropJob_holdHours (w : Work) (n : Nat) : (w.dropJob n).hq.holdHours = w.hq.holdHours := rfl
@[simp] theorem Work.dropJob_jobs (w : Work) (n : Nat) : (w.dropJob n).hq.jobs = w.hq.jobs.remove n := rfl

@[simp] theorem Work.setJobList_adir (w : Work) (a : Nat) (l : List Nat) : (w.setJobList a l).adir = w.adir := rfl
@[simp] theorem Work.setJobList_qtu (w : Work) (a : Nat) (l : List Nat) : (w.setJobList a l).qtu = w.qtu := rfl
@[simp] theorem Work.setJobList_rlu (w : Work) (a : Nat) (l : List Nat) : (w.setJobList a l).rlu = w.rlu := rfl
@[simp] theorem Work.setJobList_ptb (w : Work) (a : Nat) (l : List Nat) : (w.setJobList a l).ptb = w.ptb := rfl
@[simp] theorem Work.setJobList_spu (w : Work) (a : Nat) (l : List Nat) : (w.setJobList a l).spu = w.spu := rfl
@[simp] theorem Work.setJobList_cou (w : Work) (a : Nat) (l : List Nat) : (w.setJobList a l).cou = w.cou := rfl
@[simp] theorem Work.setJobList_fck (w : Work) (a : Nat) (l : List Nat) : (w.setJobList a l).fck = w.fck := rfl
@[simp] theorem Work.setJobList_raised (w : Work) (a : Nat) (l : List Nat) : (w.setJobList a l).raised = w.raised := rfl
@[simp] theorem Work.setJobList_due (w : Work) (a : Nat) (l : List Nat) : (w.setJobList a l).due = w.due := rfl
@[simp] theorem Work.setJobList_now (w : Work) (a : Nat) (l : List Nat) : (w.setJobList a l).now = w.now := rfl
@[simp] theorem Work.setJobList_jobs (w : Work) (a : Nat) (l : List Nat) : (w.setJobList a l).hq.jobs = w.hq.jobs := rfl
@[simp] theorem Work.setJobList_lastJob (w : Work) (a : Nat) (l : List Nat) : (w.setJobList a l).hq.lastJob = w.hq.lastJob := rfl
@[simp] theorem Work.setJobList_holdHours (w : Work) (a : Nat) (l : List Nat) : (w.setJobList a l).hq.holdHours = w.hq.holdHours := rfl
@[simp] theorem Work.setJobList_lists (w : Work) (a : Nat) (l : List Nat) : (w.setJobList a l).hq.lists = w.hq.lists.putList a l := rfl

@[simp] theorem Work.setVisit_adir (w : Work) (p : Nat) (v : Visit) : (w.setVisit p v).adir = w.adir := rfl
@[simp] theorem Work.setVisit_qtu (w : Work) (p : Nat) (v : Visit) : (w.setVisit p v).qtu = w.qtu := rfl
@[simp] theorem Work.setVisit_hq (w : Work) (p : Nat) (v : Visit) : (w.setVisit p v).hq = w.hq := rfl
@[simp] theorem Work.setVisit_ptb (w : Work) (p : Nat) (v : Visit) : (w.setVisit p v).ptb = w.ptb := rfl
@[simp] theorem Work.setVisit_spu (w : Work) (p : Nat) (v : Visit) : (w.setVisit p v).spu = w.spu := rfl
@[simp] theorem Work.setVisit_cou (w : Work) (p : Nat) (v : Visit) : (w.setVisit p v).cou = w.cou := rfl
@[simp] theorem Work.setVisit_fck (w : Work) (p : Nat) (v : Visit) : (w.setVisit p v).fck = w.fck := rfl
@[simp] theorem Work.setVisit_raised (w : Work) (p : Nat) (v : Visit) : (w.setVisit p v).raised = w.raised := rfl
@[simp] theorem Work.setVisit_due (w : Work) (p : Nat) (v : Visit) : (w.setVisit p v).due = w.due := rfl
@[simp] theorem Work.setVisit_now (w : Work) (p : Nat) (v : Visit) : (w.setVisit p v).now = w.now := rfl
@[simp] theorem Work.setVisit_inFlight (w : Work) (p : Nat) (v : Visit) : (w.setVisit p v).rlu.inFlight = w.rlu.inFlight := rfl
@[simp] theorem Work.setVisit_lastGrant (w : Work) (p : Nat) (v : Visit) : (w.setVisit p v).rlu.lastGrant = w.rlu.lastGrant := rfl
@[simp] theorem Work.setVisit_idleTimeout (w : Work) (p : Nat) (v : Visit) : (w.setVisit p v).rlu.idleTimeout = w.rlu.idleTimeout := rfl
@[simp] theorem Work.setVisit_grantWindow (w : Work) (p : Nat) (v : Visit) : (w.setVisit p v).rlu.grantWindow = w.rlu.grantWindow := rfl
@[simp] theorem Work.setVisit_completionWindow (w : Work) (p : Nat) (v : Visit) : (w.setVisit p v).rlu.completionWindow = w.rlu.completionWindow := rfl
@[simp] theorem Work.setVisit_maxAttempts (w : Work) (p : Nat) (v : Visit) : (w.setVisit p v).rlu.maxAttempts = w.rlu.maxAttempts := rfl
@[simp] theorem Work.setVisit_visits (w : Work) (p : Nat) (v : Visit) : (w.setVisit p v).rlu.visits = w.rlu.visits.put p v := rfl

@[simp] theorem Work.dropVisit_adir (w : Work) (p : Nat) : (w.dropVisit p).adir = w.adir := rfl
@[simp] theorem Work.dropVisit_qtu (w : Work) (p : Nat) : (w.dropVisit p).qtu = w.qtu := rfl
@[simp] theorem Work.dropVisit_hq (w : Work) (p : Nat) : (w.dropVisit p).hq = w.hq := rfl
@[simp] theorem Work.dropVisit_ptb (w : Work) (p : Nat) : (w.dropVisit p).ptb = w.ptb := rfl
@[simp] theorem Work.dropVisit_spu (w : Work) (p : Nat) : (w.dropVisit p).spu = w.spu := rfl
@[simp] theorem Work.dropVisit_cou (w : Work) (p : Nat) : (w.dropVisit p).cou = w.cou := rfl
@[simp] theorem Work.dropVisit_fck (w : Work) (p : Nat) : (w.dropVisit p).fck = w.fck := rfl
@[simp] theorem Work.dropVisit_raised (w : Work) (p : Nat) : (w.dropVisit p).raised = w.raised := rfl
@[simp] theorem Work.dropVisit_due (w : Work) (p : Nat) : (w.dropVisit p).due = w.due := rfl
@[simp] theorem Work.dropVisit_now (w : Work) (p : Nat) : (w.dropVisit p).now = w.now := rfl
@[simp] theorem Work.dropVisit_inFlight (w : Work) (p : Nat) : (w.dropVisit p).rlu.inFlight = w.rlu.inFlight := rfl
@[simp] theorem Work.dropVisit_lastGrant (w : Work) (p : Nat) : (w.dropVisit p).rlu.lastGrant = w.rlu.lastGrant := rfl
@[simp] theorem Work.dropVisit_idleTimeout (w : Work) (p : Nat) : (w.dropVisit p).rlu.idleTimeout = w.rlu.idleTimeout := rfl
@[simp] theorem Work.dropVisit_grantWindow (w : Work) (p : Nat) : (w.dropVisit p).rlu.grantWindow = w.rlu.grantWindow := rfl
@[simp] theorem Work.dropVisit_completionWindow (w : Work) (p : Nat) : (w.dropVisit p).rlu.completionWindow = w.rlu.completionWindow := rfl
@[simp] theorem Work.dropVisit_maxAttempts (w : Work) (p : Nat) : (w.dropVisit p).rlu.maxAttempts = w.rlu.maxAttempts := rfl
@[simp] theorem Work.dropVisit_visits (w : Work) (p : Nat) : (w.dropVisit p).rlu.visits = w.rlu.visits.remove p := rfl

@[simp] theorem Work.setInFlight_adir (w : Work) (p : Nat) (l : List InFlight) : (w.setInFlight p l).adir = w.adir := rfl
@[simp] theorem Work.setInFlight_qtu (w : Work) (p : Nat) (l : List InFlight) : (w.setInFlight p l).qtu = w.qtu := rfl
@[simp] theorem Work.setInFlight_hq (w : Work) (p : Nat) (l : List InFlight) : (w.setInFlight p l).hq = w.hq := rfl
@[simp] theorem Work.setInFlight_ptb (w : Work) (p : Nat) (l : List InFlight) : (w.setInFlight p l).ptb = w.ptb := rfl
@[simp] theorem Work.setInFlight_spu (w : Work) (p : Nat) (l : List InFlight) : (w.setInFlight p l).spu = w.spu := rfl
@[simp] theorem Work.setInFlight_cou (w : Work) (p : Nat) (l : List InFlight) : (w.setInFlight p l).cou = w.cou := rfl
@[simp] theorem Work.setInFlight_fck (w : Work) (p : Nat) (l : List InFlight) : (w.setInFlight p l).fck = w.fck := rfl
@[simp] theorem Work.setInFlight_raised (w : Work) (p : Nat) (l : List InFlight) : (w.setInFlight p l).raised = w.raised := rfl
@[simp] theorem Work.setInFlight_due (w : Work) (p : Nat) (l : List InFlight) : (w.setInFlight p l).due = w.due := rfl
@[simp] theorem Work.setInFlight_now (w : Work) (p : Nat) (l : List InFlight) : (w.setInFlight p l).now = w.now := rfl
@[simp] theorem Work.setInFlight_visits (w : Work) (p : Nat) (l : List InFlight) : (w.setInFlight p l).rlu.visits = w.rlu.visits := rfl
@[simp] theorem Work.setInFlight_lastGrant (w : Work) (p : Nat) (l : List InFlight) : (w.setInFlight p l).rlu.lastGrant = w.rlu.lastGrant := rfl
@[simp] theorem Work.setInFlight_idleTimeout (w : Work) (p : Nat) (l : List InFlight) : (w.setInFlight p l).rlu.idleTimeout = w.rlu.idleTimeout := rfl
@[simp] theorem Work.setInFlight_grantWindow (w : Work) (p : Nat) (l : List InFlight) : (w.setInFlight p l).rlu.grantWindow = w.rlu.grantWindow := rfl
@[simp] theorem Work.setInFlight_completionWindow (w : Work) (p : Nat) (l : List InFlight) : (w.setInFlight p l).rlu.completionWindow = w.rlu.completionWindow := rfl
@[simp] theorem Work.setInFlight_maxAttempts (w : Work) (p : Nat) (l : List InFlight) : (w.setInFlight p l).rlu.maxAttempts = w.rlu.maxAttempts := rfl
@[simp] theorem Work.setInFlight_inFlight (w : Work) (p : Nat) (l : List InFlight) : (w.setInFlight p l).rlu.inFlight = w.rlu.inFlight.putList p l := rfl

@[simp] theorem Work.setPrinter_adir (w : Work) (p : Nat) (r : Printer) : (w.setPrinter p r).adir = w.adir := rfl
@[simp] theorem Work.setPrinter_qtu (w : Work) (p : Nat) (r : Printer) : (w.setPrinter p r).qtu = w.qtu := rfl
@[simp] theorem Work.setPrinter_hq (w : Work) (p : Nat) (r : Printer) : (w.setPrinter p r).hq = w.hq := rfl
@[simp] theorem Work.setPrinter_rlu (w : Work) (p : Nat) (r : Printer) : (w.setPrinter p r).rlu = w.rlu := rfl
@[simp] theorem Work.setPrinter_spu (w : Work) (p : Nat) (r : Printer) : (w.setPrinter p r).spu = w.spu := rfl
@[simp] theorem Work.setPrinter_cou (w : Work) (p : Nat) (r : Printer) : (w.setPrinter p r).cou = w.cou := rfl
@[simp] theorem Work.setPrinter_fck (w : Work) (p : Nat) (r : Printer) : (w.setPrinter p r).fck = w.fck := rfl
@[simp] theorem Work.setPrinter_raised (w : Work) (p : Nat) (r : Printer) : (w.setPrinter p r).raised = w.raised := rfl
@[simp] theorem Work.setPrinter_due (w : Work) (p : Nat) (r : Printer) : (w.setPrinter p r).due = w.due := rfl
@[simp] theorem Work.setPrinter_now (w : Work) (p : Nat) (r : Printer) : (w.setPrinter p r).now = w.now := rfl
@[simp] theorem Work.setPrinter_printers (w : Work) (p : Nat) (r : Printer) : (w.setPrinter p r).ptb.printers = w.ptb.printers.put p r := rfl

@[simp] theorem Work.dropPrinter_adir (w : Work) (p : Nat) : (w.dropPrinter p).adir = w.adir := rfl
@[simp] theorem Work.dropPrinter_qtu (w : Work) (p : Nat) : (w.dropPrinter p).qtu = w.qtu := rfl
@[simp] theorem Work.dropPrinter_hq (w : Work) (p : Nat) : (w.dropPrinter p).hq = w.hq := rfl
@[simp] theorem Work.dropPrinter_rlu (w : Work) (p : Nat) : (w.dropPrinter p).rlu = w.rlu := rfl
@[simp] theorem Work.dropPrinter_spu (w : Work) (p : Nat) : (w.dropPrinter p).spu = w.spu := rfl
@[simp] theorem Work.dropPrinter_cou (w : Work) (p : Nat) : (w.dropPrinter p).cou = w.cou := rfl
@[simp] theorem Work.dropPrinter_fck (w : Work) (p : Nat) : (w.dropPrinter p).fck = w.fck := rfl
@[simp] theorem Work.dropPrinter_raised (w : Work) (p : Nat) : (w.dropPrinter p).raised = w.raised := rfl
@[simp] theorem Work.dropPrinter_due (w : Work) (p : Nat) : (w.dropPrinter p).due = w.due := rfl
@[simp] theorem Work.dropPrinter_now (w : Work) (p : Nat) : (w.dropPrinter p).now = w.now := rfl
@[simp] theorem Work.dropPrinter_printers (w : Work) (p : Nat) : (w.dropPrinter p).ptb.printers = w.ptb.printers.remove p := rfl

@[simp] theorem Work.setSlot_adir (w : Work) (key : Nat) (s : Slot) : (w.setSlot key s).adir = w.adir := rfl
@[simp] theorem Work.setSlot_qtu (w : Work) (key : Nat) (s : Slot) : (w.setSlot key s).qtu = w.qtu := rfl
@[simp] theorem Work.setSlot_hq (w : Work) (key : Nat) (s : Slot) : (w.setSlot key s).hq = w.hq := rfl
@[simp] theorem Work.setSlot_rlu (w : Work) (key : Nat) (s : Slot) : (w.setSlot key s).rlu = w.rlu := rfl
@[simp] theorem Work.setSlot_ptb (w : Work) (key : Nat) (s : Slot) : (w.setSlot key s).ptb = w.ptb := rfl
@[simp] theorem Work.setSlot_cou (w : Work) (key : Nat) (s : Slot) : (w.setSlot key s).cou = w.cou := rfl
@[simp] theorem Work.setSlot_fck (w : Work) (key : Nat) (s : Slot) : (w.setSlot key s).fck = w.fck := rfl
@[simp] theorem Work.setSlot_raised (w : Work) (key : Nat) (s : Slot) : (w.setSlot key s).raised = w.raised := rfl
@[simp] theorem Work.setSlot_due (w : Work) (key : Nat) (s : Slot) : (w.setSlot key s).due = w.due := rfl
@[simp] theorem Work.setSlot_now (w : Work) (key : Nat) (s : Slot) : (w.setSlot key s).now = w.now := rfl
@[simp] theorem Work.setSlot_types (w : Work) (key : Nat) (s : Slot) : (w.setSlot key s).spu.types = w.spu.types := rfl
@[simp] theorem Work.setSlot_shift (w : Work) (key : Nat) (s : Slot) : (w.setSlot key s).spu.shift = w.spu.shift := rfl
@[simp] theorem Work.setSlot_slots (w : Work) (key : Nat) (s : Slot) : (w.setSlot key s).spu.slots = w.spu.slots.put key s := rfl

@[simp] theorem Work.dropSlot_adir (w : Work) (key : Nat) : (w.dropSlot key).adir = w.adir := rfl
@[simp] theorem Work.dropSlot_qtu (w : Work) (key : Nat) : (w.dropSlot key).qtu = w.qtu := rfl
@[simp] theorem Work.dropSlot_hq (w : Work) (key : Nat) : (w.dropSlot key).hq = w.hq := rfl
@[simp] theorem Work.dropSlot_rlu (w : Work) (key : Nat) : (w.dropSlot key).rlu = w.rlu := rfl
@[simp] theorem Work.dropSlot_ptb (w : Work) (key : Nat) : (w.dropSlot key).ptb = w.ptb := rfl
@[simp] theorem Work.dropSlot_cou (w : Work) (key : Nat) : (w.dropSlot key).cou = w.cou := rfl
@[simp] theorem Work.dropSlot_fck (w : Work) (key : Nat) : (w.dropSlot key).fck = w.fck := rfl
@[simp] theorem Work.dropSlot_raised (w : Work) (key : Nat) : (w.dropSlot key).raised = w.raised := rfl
@[simp] theorem Work.dropSlot_due (w : Work) (key : Nat) : (w.dropSlot key).due = w.due := rfl
@[simp] theorem Work.dropSlot_now (w : Work) (key : Nat) : (w.dropSlot key).now = w.now := rfl
@[simp] theorem Work.dropSlot_types (w : Work) (key : Nat) : (w.dropSlot key).spu.types = w.spu.types := rfl
@[simp] theorem Work.dropSlot_shift (w : Work) (key : Nat) : (w.dropSlot key).spu.shift = w.spu.shift := rfl
@[simp] theorem Work.dropSlot_slots (w : Work) (key : Nat) : (w.dropSlot key).spu.slots = w.spu.slots.remove key := rfl

@[simp] theorem Work.setType_adir (w : Work) (i : Nat) (t : SupplyType) : (w.setType i t).adir = w.adir := rfl
@[simp] theorem Work.setType_qtu (w : Work) (i : Nat) (t : SupplyType) : (w.setType i t).qtu = w.qtu := rfl
@[simp] theorem Work.setType_hq (w : Work) (i : Nat) (t : SupplyType) : (w.setType i t).hq = w.hq := rfl
@[simp] theorem Work.setType_rlu (w : Work) (i : Nat) (t : SupplyType) : (w.setType i t).rlu = w.rlu := rfl
@[simp] theorem Work.setType_ptb (w : Work) (i : Nat) (t : SupplyType) : (w.setType i t).ptb = w.ptb := rfl
@[simp] theorem Work.setType_cou (w : Work) (i : Nat) (t : SupplyType) : (w.setType i t).cou = w.cou := rfl
@[simp] theorem Work.setType_fck (w : Work) (i : Nat) (t : SupplyType) : (w.setType i t).fck = w.fck := rfl
@[simp] theorem Work.setType_raised (w : Work) (i : Nat) (t : SupplyType) : (w.setType i t).raised = w.raised := rfl
@[simp] theorem Work.setType_due (w : Work) (i : Nat) (t : SupplyType) : (w.setType i t).due = w.due := rfl
@[simp] theorem Work.setType_now (w : Work) (i : Nat) (t : SupplyType) : (w.setType i t).now = w.now := rfl
@[simp] theorem Work.setType_slots (w : Work) (i : Nat) (t : SupplyType) : (w.setType i t).spu.slots = w.spu.slots := rfl
@[simp] theorem Work.setType_shift (w : Work) (i : Nat) (t : SupplyType) : (w.setType i t).spu.shift = w.spu.shift := rfl
@[simp] theorem Work.setType_types (w : Work) (i : Nat) (t : SupplyType) : (w.setType i t).spu.types = w.spu.types.put i t := rfl

@[simp] theorem Work.dropType_adir (w : Work) (i : Nat) : (w.dropType i).adir = w.adir := rfl
@[simp] theorem Work.dropType_qtu (w : Work) (i : Nat) : (w.dropType i).qtu = w.qtu := rfl
@[simp] theorem Work.dropType_hq (w : Work) (i : Nat) : (w.dropType i).hq = w.hq := rfl
@[simp] theorem Work.dropType_rlu (w : Work) (i : Nat) : (w.dropType i).rlu = w.rlu := rfl
@[simp] theorem Work.dropType_ptb (w : Work) (i : Nat) : (w.dropType i).ptb = w.ptb := rfl
@[simp] theorem Work.dropType_cou (w : Work) (i : Nat) : (w.dropType i).cou = w.cou := rfl
@[simp] theorem Work.dropType_fck (w : Work) (i : Nat) : (w.dropType i).fck = w.fck := rfl
@[simp] theorem Work.dropType_raised (w : Work) (i : Nat) : (w.dropType i).raised = w.raised := rfl
@[simp] theorem Work.dropType_due (w : Work) (i : Nat) : (w.dropType i).due = w.due := rfl
@[simp] theorem Work.dropType_now (w : Work) (i : Nat) : (w.dropType i).now = w.now := rfl
@[simp] theorem Work.dropType_slots (w : Work) (i : Nat) : (w.dropType i).spu.slots = w.spu.slots := rfl
@[simp] theorem Work.dropType_shift (w : Work) (i : Nat) : (w.dropType i).spu.shift = w.spu.shift := rfl
@[simp] theorem Work.dropType_types (w : Work) (i : Nat) : (w.dropType i).spu.types = w.spu.types.remove i := rfl

@[simp] theorem Work.setTickets_adir (w : Work) (l : List Ticket) : (w.setTickets l).adir = w.adir := rfl
@[simp] theorem Work.setTickets_qtu (w : Work) (l : List Ticket) : (w.setTickets l).qtu = w.qtu := rfl
@[simp] theorem Work.setTickets_hq (w : Work) (l : List Ticket) : (w.setTickets l).hq = w.hq := rfl
@[simp] theorem Work.setTickets_rlu (w : Work) (l : List Ticket) : (w.setTickets l).rlu = w.rlu := rfl
@[simp] theorem Work.setTickets_ptb (w : Work) (l : List Ticket) : (w.setTickets l).ptb = w.ptb := rfl
@[simp] theorem Work.setTickets_spu (w : Work) (l : List Ticket) : (w.setTickets l).spu = w.spu := rfl
@[simp] theorem Work.setTickets_fck (w : Work) (l : List Ticket) : (w.setTickets l).fck = w.fck := rfl
@[simp] theorem Work.setTickets_raised (w : Work) (l : List Ticket) : (w.setTickets l).raised = w.raised := rfl
@[simp] theorem Work.setTickets_due (w : Work) (l : List Ticket) : (w.setTickets l).due = w.due := rfl
@[simp] theorem Work.setTickets_now (w : Work) (l : List Ticket) : (w.setTickets l).now = w.now := rfl
@[simp] theorem Work.setTickets_backlog (w : Work) (l : List Ticket) : (w.setTickets l).cou.backlog = w.cou.backlog := rfl
@[simp] theorem Work.setTickets_lastTicket (w : Work) (l : List Ticket) : (w.setTickets l).cou.lastTicket = w.cou.lastTicket := rfl
@[simp] theorem Work.setTickets_alarm (w : Work) (l : List Ticket) : (w.setTickets l).cou.alarm = w.cou.alarm := rfl
@[simp] theorem Work.setTickets_tickets (w : Work) (l : List Ticket) : (w.setTickets l).cou.tickets = l := rfl

@[simp] theorem Work.setBacklog_adir (w : Work) (l : List OwedCause) : (w.setBacklog l).adir = w.adir := rfl
@[simp] theorem Work.setBacklog_qtu (w : Work) (l : List OwedCause) : (w.setBacklog l).qtu = w.qtu := rfl
@[simp] theorem Work.setBacklog_hq (w : Work) (l : List OwedCause) : (w.setBacklog l).hq = w.hq := rfl
@[simp] theorem Work.setBacklog_rlu (w : Work) (l : List OwedCause) : (w.setBacklog l).rlu = w.rlu := rfl
@[simp] theorem Work.setBacklog_ptb (w : Work) (l : List OwedCause) : (w.setBacklog l).ptb = w.ptb := rfl
@[simp] theorem Work.setBacklog_spu (w : Work) (l : List OwedCause) : (w.setBacklog l).spu = w.spu := rfl
@[simp] theorem Work.setBacklog_fck (w : Work) (l : List OwedCause) : (w.setBacklog l).fck = w.fck := rfl
@[simp] theorem Work.setBacklog_raised (w : Work) (l : List OwedCause) : (w.setBacklog l).raised = w.raised := rfl
@[simp] theorem Work.setBacklog_due (w : Work) (l : List OwedCause) : (w.setBacklog l).due = w.due := rfl
@[simp] theorem Work.setBacklog_now (w : Work) (l : List OwedCause) : (w.setBacklog l).now = w.now := rfl
@[simp] theorem Work.setBacklog_tickets (w : Work) (l : List OwedCause) : (w.setBacklog l).cou.tickets = w.cou.tickets := rfl
@[simp] theorem Work.setBacklog_lastTicket (w : Work) (l : List OwedCause) : (w.setBacklog l).cou.lastTicket = w.cou.lastTicket := rfl
@[simp] theorem Work.setBacklog_alarm (w : Work) (l : List OwedCause) : (w.setBacklog l).cou.alarm = w.cou.alarm := rfl
@[simp] theorem Work.setBacklog_backlog (w : Work) (l : List OwedCause) : (w.setBacklog l).cou.backlog = l := rfl

@[simp] theorem Work.raise_toRecords (w : Work) (k : NoticeKind) (n : Nat) (b : List Field) :
    (w.raise k n b).toRecords = w.toRecords := rfl
@[simp] theorem Work.raise_raised (w : Work) (k : NoticeKind) (n : Nat) (b : List Field) :
    (w.raise k n b).raised = w.raised ++ [{ kind := k, key := n, body := b }] := rfl
@[simp] theorem Work.raise_due (w : Work) (k : NoticeKind) (n : Nat) (b : List Field) : (w.raise k n b).due = w.due := rfl
@[simp] theorem Work.raise_now (w : Work) (k : NoticeKind) (n : Nat) (b : List Field) : (w.raise k n b).now = w.now := rfl

@[simp] theorem State.work_toRecords (s : State) : s.work.toRecords = s.toRecords := rfl
@[simp] theorem State.work_raised (s : State) : s.work.raised = [] := rfl
@[simp] theorem State.work_now (s : State) : s.work.now = s.fck.uptime := rfl

/-- What an answer without a change of the records is made of. -/
@[simp] theorem Work.refuse_fst (w : Work) (o : ReplyOutcome) : (w.refuse o).1 = w := rfl
@[simp] theorem Work.refuse_snd (w : Work) (o : ReplyOutcome) : (w.refuse o).2 = ⟨o, []⟩ := rfl
@[simp] theorem Work.ok_fst (w : Work) (b : List Field) : (w.ok b).1 = w := rfl
@[simp] theorem Work.ok_snd (w : Work) (b : List Field) : (w.ok b).2 = ⟨.ok, b⟩ := rfl

end Sys2Proof.Machine
end

