-- ==== Sys2Proof/Laws/Tables.lean ====
section
/-! SUPPORT. Tables of records and deadlines: what a read sees after a write, and that every write keeps the indices rising. -/

namespace Sys2Proof.Machine

open Sys2Proof.Safety

variable {α : Type}

theorem Table.lookup_put (t : Table α) (i j : Nat) (v : α) :
    (t.put i v).lookup j = if j = i then some v else t.lookup j := by
  induction t with
  | nil => simp [put, lookup, eq_comm]
  | cons e rest ih =>
    obtain ⟨k, w⟩ := e
    simp only [put]
    split
    · simp only [lookup, eq_comm (a := i)]
    · split
      · subst i; by_cases h : j = k <;> simp [lookup, h, eq_comm]
      · by_cases h : j = i
        · subst h; simp only [lookup, ih]; simp_all [eq_comm]
        · simp only [lookup, ih, h, if_false]

/-- A second write at an index takes the place of the first. -/
@[simp] theorem Table.put_put (t : Table α) (i : Nat) (v w : α) : (t.put i v).put i w = t.put i w := by
  induction t with
  | nil => simp [put]
  | cons e rest ih =>
    obtain ⟨k, u⟩ := e
    simp only [put]
    split
    · simp [put]
    · split
      · simp [put]
      · simp_all [put]

@[simp] theorem Table.lookup_put_self (t : Table α) (i : Nat) (v : α) : (t.put i v).lookup i = some v := by
  simp [lookup_put]

theorem Table.lookup_remove (t : Table α) (i j : Nat) :
    (t.remove i).lookup j = if j = i then none else t.lookup j := by
  induction t with
  | nil => simp [remove, lookup]
  | cons e rest ih =>
    obtain ⟨k, w⟩ := e
    simp only [remove, List.filter_cons] at ih ⊢
    by_cases h : k = i
    · subst h; by_cases hj : j = k <;> simp_all [lookup, eq_comm]
    · by_cases hj : j = i
      · subst hj; simp_all [lookup]
      · simp [h, lookup, ih, hj]

theorem Table.mem_of_lookup {t : Table α} {i : Nat} {v : α} (h : t.lookup i = some v) : (i, v) ∈ t := by
  induction t with
  | nil => simp [lookup] at h
  | cons e rest ih =>
    obtain ⟨k, w⟩ := e
    simp only [lookup] at h
    split at h
    · simp_all
    · exact List.mem_cons_of_mem _ (ih h)

theorem Table.mem_put {t : Table α} {i : Nat} {v : α} {e : Nat × α} (h : e ∈ t.put i v) : e = (i, v) ∨ e ∈ t := by
  induction t with
  | nil => simpa [put] using h
  | cons f rest ih =>
    obtain ⟨k, w⟩ := f
    simp only [put] at h
    split at h
    · simpa using h
    · split at h
      · simp only [List.mem_cons] at h ⊢; tauto
      · simp only [List.mem_cons] at h ⊢; rcases h with h | h
        · tauto
        · have := ih h; tauto

theorem Table.mem_remove {t : Table α} {i : Nat} {e : Nat × α} (h : e ∈ t.remove i) : e ∈ t :=
  (List.mem_filter.mp h).1

/-- A property of every record survives a write of a record that has it. -/
theorem Table.forall_put {P : Nat × α → Prop} {t : Table α} {i : Nat} {v : α} (h : ∀ e ∈ t, P e) (hv : P (i, v)) :
    ∀ e ∈ t.put i v, P e := fun e he => (mem_put he).elim (fun h' => h' ▸ hv) (h e)

end Sys2Proof.Machine

/-! ### Rising indices -/

namespace Sys2Proof.Safety

open Sys2Proof.Machine

variable {α : Type}

theorem Rising.put {low high : Nat} {t : Table α} {i : Nat} (h : Rising low high t) (hi : low ≤ i ∧ i < high) (v : α) :
    Rising low high (t.put i v) := by
  refine ⟨?_, Table.forall_put h.2 hi⟩
  obtain ⟨h, -⟩ := h
  induction t with
  | nil => simp [Table.put]
  | cons e rest ih =>
    obtain ⟨k, w⟩ := e
    rw [List.pairwise_cons] at h
    simp only [Table.put]
    split
    · refine List.Pairwise.cons ?_ (List.Pairwise.cons h.1 h.2)
      intro f hf
      rcases List.mem_cons.mp hf with rfl | hf
      · assumption
      · have := h.1 f hf; simp only at this ⊢; omega
    · split
      · subst i; exact List.Pairwise.cons h.1 h.2
      · refine List.Pairwise.cons ?_ (ih h.2)
        intro f hf
        rcases Table.mem_put hf with rfl | hf
        · simp only; omega
        · exact h.1 f hf

theorem Rising.bounds {low high : Nat} {t : Table α} {i : Nat} {v : α} (h : Rising low high t)
    (hl : t.lookup i = some v) : low ≤ i ∧ i < high := h.2 _ (Table.mem_of_lookup hl)

/-- In a table whose indices rise, an entry is the one its index reads. -/
theorem Rising.lookup_of_mem {low high : Nat} {t : Table α} {i : Nat} {v : α} (h : Rising low high t) (hm : (i, v) ∈ t) :
    t.lookup i = some v := by
  have hr := h.rising
  clear h
  induction t with
  | nil => cases hm
  | cons e rest ih =>
    obtain ⟨k, w⟩ := e
    rcases List.mem_cons.mp hm with hm | hm
    · obtain ⟨rfl, rfl⟩ := hm; simp [Table.lookup]
    · have hk : k < i := (List.pairwise_cons.mp hr).1 _ hm
      have : ¬ k = i := by omega
      simpa [Table.lookup, this, eq_comm] using ih hm (List.pairwise_cons.mp hr).2

/-- A write at an index that holds a record keeps a table's indices. -/
theorem Rising.put_of_lookup {low high : Nat} {t : Table α} {i : Nat} {v : α} (h : Rising low high t)
    (hl : t.lookup i = some v) (v' : α) : Rising low high (t.put i v') := h.put (h.bounds hl) v'

theorem Rising.filter {low high : Nat} {t : Table α} (h : Rising low high t) (p : Nat × α → Bool) :
    Rising low high (t.filter p) :=
  ⟨h.1.filter p, fun e he => h.2 e (List.mem_filter.mp he).1⟩

theorem Rising.remove {low high : Nat} {t : Table α} (h : Rising low high t) (i : Nat) : Rising low high (t.remove i) :=
  h.filter _

/-- A change of the records that keeps their indices. -/
theorem Rising.map {low high : Nat} {t : Table α} (h : Rising low high t) (f : Nat × α → α) :
    Rising low high (t.map (fun e => (e.1, f e))) := by
  refine ⟨?_, ?_⟩
  · rw [List.pairwise_map]; exact h.1
  · intro e he
    obtain ⟨e', he', rfl⟩ := List.mem_map.mp he
    exact h.2 e' he'

theorem Rising.nil {low high : Nat} : Rising low high ([] : Table α) := ⟨List.Pairwise.nil, by simp⟩

/-- A list that is not empty stands in the table. -/
theorem lookup_of_list {t : Table (List α)} {i : Nat} (h : t.list i ≠ []) : t.lookup i = some (t.list i) := by
  simp only [Table.list] at h ⊢
  cases hl : t.lookup i <;> simp_all

/-- Writing an index's list: a list that is not empty needs an index of the table's kind. -/
theorem Rising.putList {low high : Nat} {t : Table (List α)} {i : Nat} (h : Rising low high t) {l : List α}
    (hi : l ≠ [] → low ≤ i ∧ i < high) : Rising low high (t.putList i l) := by
  simp only [Table.putList]
  split
  · exact h.remove i
  · rename_i hl; exact h.put (hi (by simpa using hl)) l

/-- A list that was there before has an index of the table's kind. -/
theorem Rising.bounds_of_list {low high : Nat} {t : Table (List α)} {i : Nat} (h : Rising low high t)
    (hl : t.list i ≠ []) : low ≤ i ∧ i < high := h.bounds (lookup_of_list hl)

end Sys2Proof.Safety

namespace Sys2Proof.Machine

open Sys2Proof.Safety

variable {α : Type}

theorem Table.list_putList (t : Table (List α)) (i j : Nat) (l : List α) :
    (t.putList i l).list j = if j = i then l else t.list j := by
  simp only [putList, list]
  split
  · rename_i h
    simp only [List.isEmpty_iff] at h
    rw [lookup_remove]; split <;> simp [h]
  · rw [lookup_put]; split <;> simp

theorem Table.mem_putList {t : Table (List α)} {i : Nat} {l : List α} {e : Nat × List α} (h : e ∈ t.putList i l) :
    e = (i, l) ∨ e ∈ t := by
  simp only [putList] at h
  split at h
  · exact .inr (mem_remove h)
  · exact mem_put h

/-! ### Deadlines -/

theorem arm_eq_armed (now duration : Nat) : arm now duration = armed now duration := rfl

theorem reached_iff_fallen (d : Deadline) (now : Nat) : d.reached now = true ↔ fallen now d := by
  simp [Deadline.reached, fallen]

theorem arm_value_le (now duration : Nat) : (arm now duration).value ≤ 4294967295 := Nat.min_le_right _ _

/-! ### Numbers issued -/

/-- The search for a free number stays among the numbers from 1 to `top`. -/
theorem nextFree_bounds {top : Nat} (h : 1 ≤ top) (used : List Nat) (fuel last : Nat) :
    1 ≤ nextFree top used fuel last ∧ nextFree top used fuel last ≤ top := by
  induction fuel generalizing last with
  | zero => simp only [nextFree]; split <;> omega
  | succ n ih =>
    simp only [nextFree]
    by_cases hl : last < top
    · simp only [hl, if_true]
      split
      · exact ih _
      · omega
    · simp only [hl, if_false]
      split
      · exact ih _
      · omega

/-- The search steps through the numbers in their order from 1 to `top` and around: it stops at the first that is not in use, or
runs out of fuel behind so many that are. -/
theorem nextFree_steps {top : Nat} (h : 1 ≤ top) (used : List Nat) (fuel last : Nat) :
    nextNumber top used last (nextFree top used fuel last) ∨ ∀ k < fuel, numberAfter top last k ∈ used := by
  induction fuel generalizing last with
  | zero => exact .inr fun _ hk => absurd hk (Nat.not_lt_zero _)
  | succ fuel ih =>
    have first : (if last < top then last + 1 else 1) = numberAfter top last 0 := by
      rcases Nat.lt_or_ge last top with hl | hl
      · simp [numberAfter, hl, Nat.min_eq_left hl.le, Nat.mod_eq_of_lt hl]
      · simp [numberAfter, Nat.not_lt.mpr hl, Nat.min_eq_right hl]
    have later (k : Nat) : numberAfter top (numberAfter top last 0) k = numberAfter top last (k + 1) := by
      have hm : min last top % top + 1 ≤ top := Nat.mod_lt _ h
      simp [numberAfter, Nat.min_eq_left hm, Nat.add_assoc, Nat.add_comm 1]
    simp only [nextFree, first]
    by_cases hu : numberAfter top last 0 ∈ used
    · rw [if_pos (by simpa using hu)]
      refine (ih (numberAfter top last 0)).imp ?_ ?_
      · rintro ⟨k, hn, hfree, hpassed⟩
        refine ⟨k + 1, by rw [hn, later], hfree, fun m hm => ?_⟩
        cases m with
        | zero => exact hu
        | succ m => rw [← later]; exact hpassed m (by omega)
      · intro hall k hk
        cases k with
        | zero => exact hu
        | succ k => rw [← later]; exact hall k (by omega)
    · rw [if_neg (by simpa using hu)]
      exact .inl ⟨0, rfl, hu, fun _ hm => absurd hm (Nat.not_lt_zero _)⟩

/-- With fewer numbers in use than there are, the number issued is the next that is not in use (R39, R145). -/
theorem nextFree_next {top : Nat} (used : List Nat) (last : Nat) (h : used.length < top) :
    nextNumber top used last (nextFree top used (used.length + 1) last) := by
  refine (nextFree_steps (by omega) used (used.length + 1) last).resolve_right fun hall => ?_
  have distinct : ((List.range (used.length + 1)).map (numberAfter top last)).Nodup := by
    refine List.nodup_range.map_on fun x hx y hy hxy => ?_
    simp only [List.mem_range] at hx hy
    exact (Nat.ModEq.add_left_cancel' _ (Nat.succ.inj hxy)).eq_of_lt_of_lt (by omega) (by omega)
  have held : (List.range (used.length + 1)).map (numberAfter top last) ⊆ used := by
    intro n hn
    obtain ⟨k, hk, rfl⟩ := List.mem_map.mp hn
    exact hall k (List.mem_range.mp hk)
  simpa using (distinct.subperm held).length_le

end Sys2Proof.Machine
end

