-- ==== Sys2Proof/Laws/Kept.lean ====
section
/-! SUPPORT. What the shared operations keep, said once for each: the settings and the clock stand as they were, and the tables,
balances and counts stay sound, and no visit appears where there was none. A proof about a command cites these lemmas and does not unfold the operations. -/

namespace Sys2Proof.Laws

open Sys2Proof.Machine Sys2Proof.Safety

/-- The fleet-wide settings of all blocks. -/
def settingsOf (r : Records) : Qtu × Nat × Rlu × Ptb × Nat × Cou :=
  (r.qtu, r.hq.holdHours, { r.rlu with visits := [], inFlight := [], lastGrant := 0 }, { r.ptb with printers := [] }, r.spu.shift,
    { r.cou with tickets := [], backlog := [], lastTicket := 0, alarm := false })

/-- What every shared operation but the day roll keeps between the records before and after it. -/
structure Kept (a b : Records) : Prop where
  settings : settingsOf b = settingsOf a
  clock : b.fck = a.fck
  tables : TablesSound a → TablesSound b
  balances : BalancesBounded a → BalancesBounded b
  counts : CountsBounded a → CountsBounded b
  visits : a.rlu.visits = [] → b.rlu.visits = []

theorem Kept.refl (a : Records) : Kept a a := ⟨rfl, rfl, id, id, id, id⟩

theorem Kept.trans {a b c : Records} (h : Kept a b) (k : Kept b c) : Kept a c :=
  ⟨k.settings.trans h.settings, k.clock.trans h.clock, k.tables ∘ h.tables, k.balances ∘ h.balances, k.counts ∘ h.counts,
    k.visits ∘ h.visits⟩

theorem SettingsInRange.of_settingsOf {a b : Records} (h : settingsOf b = settingsOf a) (k : SettingsInRange a) :
    SettingsInRange b := by
  simp only [settingsOf, Prod.mk.injEq, Rlu.mk.injEq, Ptb.mk.injEq, Cou.mk.injEq] at h
  obtain ⟨h1, h2, ⟨-, -, -, h3, h4, h5, h6⟩, ⟨-, h7⟩, h8, ⟨-, -, -, h9, h10, h11, h12, h13, h14, -⟩⟩ := h
  obtain ⟨g1, g2, g3, g4, g5, g6, g7, g8⟩ := h7
  obtain ⟨k1, k2, k3, k4, k5, k6⟩ := k
  constructor <;> simp_all

theorem Kept.settingsInRange {a b : Records} (h : Kept a b) (k : SettingsInRange a) : SettingsInRange b :=
  SettingsInRange.of_settingsOf h.settings k

theorem Kept.now {a b : Work} (h : Kept a.toRecords b.toRecords) : b.now = a.now := by
  simp only [Work.now, h.clock]

/-- A fold of an operation that keeps. -/
theorem Kept.foldl {β : Type} {f : Work → β → Work} (h : ∀ w x, Kept w.toRecords (f w x).toRecords) (l : List β) (w : Work) :
    Kept w.toRecords (l.foldl f w).toRecords := by
  induction l generalizing w with
  | nil => exact .refl _
  | cons x rest ih => exact (h w x).trans (ih _)

/-! ### Writing one record -/

/-- An account's balance and allotment stand in the bounds that R26 and R33 give. -/
def AccountBounded (a : Account) : Prop := -1048575 ≤ a.balance ∧ a.balance ≤ 2000000 ∧ a.allotment ≤ 1000000

/-- The same of a pool. -/
def PoolBounded (p : Pool) : Prop := -1048575 ≤ p.balance ∧ p.balance ≤ 2000000 ∧ p.allotment ≤ 1000000

theorem kept_raise (w : Work) (k : NoticeKind) (key : Nat) (b : List Field) : Kept w.toRecords (w.raise k key b).toRecords :=
  .refl _

theorem kept_setAccount {w : Work} {i : Nat} {a : Account} (hi : TablesSound w.toRecords → i < 4096)
    (ha : BalancesBounded w.toRecords → AccountBounded a) : Kept w.toRecords (w.setAccount i a).toRecords where
  settings := rfl
  clock := rfl
  tables h := { h with accounts := h.accounts.put ⟨Nat.zero_le _, hi h⟩ a }
  balances h := { h with accounts := Table.forall_put h.accounts (ha h) }
  counts h := { h with }
  visits h := h

/-- A write that keeps the balance and the allotment of an account that is there. -/
theorem kept_setAccount_same {w : Work} {i : Nat} {a a' : Account} (h : w.adir.accounts.lookup i = some a)
    (hb : a'.balance = a.balance) (hc : a'.allotment = a.allotment) :
    Kept w.toRecords (w.setAccount i a').toRecords := by
  refine kept_setAccount (fun k => (k.accounts.bounds h).2) (fun k => ?_)
  have := k.accounts _ (Table.mem_of_lookup h)
  simpa only [AccountBounded, hb, hc] using this

theorem kept_updateAccount {w : Work} {i : Nat} {f : Account → Account}
    (h : ∀ a, (f a).balance = a.balance ∧ (f a).allotment = a.allotment) :
    Kept w.toRecords (w.updateAccount i f).toRecords := by
  unfold Work.updateAccount
  split
  · exact .refl _
  · rename_i a ha; exact kept_setAccount_same ha (h a).1 (h a).2

theorem kept_dropAccount (w : Work) (i : Nat) : Kept w.toRecords (w.dropAccount i).toRecords where
  settings := rfl
  clock := rfl
  tables h := { h with accounts := h.accounts.remove i }
  balances h := { h with accounts := fun e he => h.accounts e (Table.mem_remove he) }
  counts h := { h with }
  visits h := h

theorem kept_setPool {w : Work} {i : Nat} {p : Pool} (hi : TablesSound w.toRecords → i < 64)
    (hp : BalancesBounded w.toRecords → PoolBounded p) : Kept w.toRecords (w.setPool i p).toRecords where
  settings := rfl
  clock := rfl
  tables h := { h with pools := h.pools.put ⟨Nat.zero_le _, hi h⟩ p }
  balances h := { h with pools := Table.forall_put h.pools (hp h) }
  counts h := { h with }
  visits h := h

theorem kept_setPool_of_lookup {w : Work} {i : Nat} {p p' : Pool} (h : w.adir.pools.lookup i = some p)
    (hp : PoolBounded p → PoolBounded p') : Kept w.toRecords (w.setPool i p').toRecords :=
  kept_setPool (fun k => (k.pools.bounds h).2) (fun k => hp (k.pools _ (Table.mem_of_lookup h)))

theorem kept_updatePool {w : Work} {i : Nat} {f : Pool → Pool} (h : ∀ p, PoolBounded p → PoolBounded (f p)) :
    Kept w.toRecords (w.updatePool i f).toRecords := by
  unfold Work.updatePool
  split
  · exact .refl _
  · rename_i p hp; exact kept_setPool_of_lookup hp (h p)

theorem kept_dropPool (w : Work) (i : Nat) : Kept w.toRecords (w.dropPool i).toRecords where
  settings := rfl
  clock := rfl
  tables h := { h with pools := h.pools.remove i }
  balances h := { h with pools := fun e he => h.pools e (Table.mem_remove he) }
  counts h := { h with }
  visits h := h

theorem kept_setBadges {w : Work} {b : List Binding} (hb : TablesSound w.toRecords → (b.map (·.code)).Nodup) :
    Kept w.toRecords (w.setBadges b).toRecords :=
  ⟨rfl, rfl, fun h => { h with badges := hb h }, fun h => { h with }, fun h => { h with }, id⟩

/-- Bindings are taken out of the directory. -/
theorem kept_filterBadges (w : Work) (p : Binding → Bool) :
    Kept w.toRecords (w.setBadges (w.adir.badges.filter p)).toRecords :=
  kept_setBadges fun h => h.badges.sublist (List.filter_sublist.map _)

theorem kept_setJob {w : Work} {n : Nat} {j : Job} (hn : TablesSound w.toRecords → 1 ≤ n ∧ n < 65536) :
    Kept w.toRecords (w.setJob n j).toRecords :=
  ⟨rfl, rfl, fun h => { h with jobs := h.jobs.put (hn h) j }, fun h => { h with }, fun h => { h with }, id⟩

theorem kept_setJob_of_lookup {w : Work} {n : Nat} {j : Job} (h : w.hq.jobs.lookup n = some j) (j' : Job) :
    Kept w.toRecords (w.setJob n j').toRecords := kept_setJob (fun k => k.jobs.bounds h)

theorem kept_dropJob (w : Work) (n : Nat) : Kept w.toRecords (w.dropJob n).toRecords :=
  ⟨rfl, rfl, fun h => { h with jobs := h.jobs.remove n }, fun h => { h with }, fun h => { h with }, id⟩

theorem kept_setJobList {w : Work} {a : Nat} {l : List Nat} (h : TablesSound w.toRecords → l ≠ [] → a < 4096) :
    Kept w.toRecords (w.setJobList a l).toRecords :=
  ⟨rfl, rfl, fun k => { k with lists := k.lists.putList (fun hl => ⟨Nat.zero_le _, h k hl⟩) }, fun h => { h with },
    fun h => { h with }, id⟩

theorem kept_setVisit_of_lookup {w : Work} {p : Nat} {v : Visit} (h : w.rlu.visits.lookup p = some v) (v' : Visit) :
    Kept w.toRecords (w.setVisit p v').toRecords where
  settings := rfl
  clock := rfl
  tables k := { k with visits := k.visits.put_of_lookup h v' }
  balances k := { k with }
  counts k := { k with }
  visits k := by simp [k, Table.lookup] at h

theorem kept_dropVisit (w : Work) (p : Nat) : Kept w.toRecords (w.dropVisit p).toRecords where
  settings := rfl
  clock := rfl
  tables k := { k with visits := k.visits.remove p }
  balances k := { k with }
  counts k := { k with }
  visits k := by simp [Work.dropVisit, Table.remove, k]

theorem kept_setInFlight {w : Work} {p : Nat} {l : List InFlight} (h : TablesSound w.toRecords → l ≠ [] → p < 96)
    (hl : CountsBounded w.toRecords → l.length ≤ 4) : Kept w.toRecords (w.setInFlight p l).toRecords where
  settings := rfl
  clock := rfl
  tables k := { k with inFlight := k.inFlight.putList (fun e => ⟨Nat.zero_le _, h k e⟩) }
  balances h := { h with }
  counts k := { k with flight := fun e he => (Table.mem_putList he).elim (fun e' => e' ▸ hl k) (k.flight e) }
  visits h := h

/-- A printer's in-flight list is never longer than the counts allow. -/
theorem inFlightList_length {r : Records} (h : CountsBounded r) (p : Nat) : (inFlightList r p).length ≤ 4 := by
  by_cases hl : r.rlu.inFlight.list p = []
  · simp [inFlightList, hl]
  · exact h.flight _ (Table.mem_of_lookup (lookup_of_list hl))

/-- A printer's list is replaced by one that is not longer, and empty where it was. -/
theorem kept_setInFlight_shorter {w : Work} {p : Nat} {l : List InFlight}
    (h : l.length ≤ (inFlightList w.toRecords p).length) : Kept w.toRecords (w.setInFlight p l).toRecords := by
  refine kept_setInFlight (fun k hl => (k.inFlight.bounds_of_list (i := p) ?_).2)
    (fun k => h.trans (inFlightList_length k p))
  intro he
  simp only [inFlightList, he, List.length_nil, Nat.le_zero, List.length_eq_zero_iff] at h
  exact hl h

theorem kept_setPrinter {w : Work} {p : Nat} (r : Printer) (h : TablesSound w.toRecords → p < 96) :
    Kept w.toRecords (w.setPrinter p r).toRecords :=
  ⟨rfl, rfl, fun k => { k with printers := k.printers.put ⟨Nat.zero_le _, h k⟩ r }, fun h => { h with }, fun h => { h with }, id⟩

theorem kept_setPrinter_of_lookup {w : Work} {p : Nat} {r : Printer} (h : w.ptb.printers.lookup p = some r) (r' : Printer) :
    Kept w.toRecords (w.setPrinter p r').toRecords := kept_setPrinter r' (fun k => (k.printers.bounds h).2)

theorem kept_dropPrinter (w : Work) (p : Nat) : Kept w.toRecords (w.dropPrinter p).toRecords :=
  ⟨rfl, rfl, fun k => { k with printers := k.printers.remove p }, fun h => { h with }, fun h => { h with }, id⟩

theorem kept_setSlot {w : Work} {key : Nat} (s : Slot) (h : TablesSound w.toRecords → key < 384) :
    Kept w.toRecords (w.setSlot key s).toRecords :=
  ⟨rfl, rfl, fun k => { k with slots := k.slots.put ⟨Nat.zero_le _, h k⟩ s }, fun h => { h with }, fun h => { h with }, id⟩

theorem kept_setSlot_of_lookup {w : Work} {key : Nat} {s : Slot} (h : w.spu.slots.lookup key = some s) (s' : Slot) :
    Kept w.toRecords (w.setSlot key s').toRecords := kept_setSlot s' (fun k => (k.slots.bounds h).2)

theorem kept_setType {w : Work} {i : Nat} (t : SupplyType) (h : TablesSound w.toRecords → i < 32) :
    Kept w.toRecords (w.setType i t).toRecords :=
  ⟨rfl, rfl, fun k => { k with types := k.types.put ⟨Nat.zero_le _, h k⟩ t }, fun h => { h with }, fun h => { h with }, id⟩

theorem kept_setType_of_lookup {w : Work} {i : Nat} {t : SupplyType} (h : w.spu.types.lookup i = some t) (t' : SupplyType) :
    Kept w.toRecords (w.setType i t').toRecords := kept_setType t' (fun k => (k.types.bounds h).2)

theorem kept_dropType (w : Work) (i : Nat) : Kept w.toRecords (w.dropType i).toRecords :=
  ⟨rfl, rfl, fun k => { k with types := k.types.remove i }, fun h => { h with }, fun h => { h with }, id⟩

theorem kept_setTickets {w : Work} {l : List Ticket} (h : CountsBounded w.toRecords → l.length ≤ 64) :
    Kept w.toRecords (w.setTickets l).toRecords :=
  ⟨rfl, rfl, fun k => { k with }, fun h => { h with }, fun k => { k with tickets := h k }, id⟩

theorem kept_setBacklog (w : Work) (l : List OwedCause) : Kept w.toRecords (w.setBacklog l).toRecords :=
  ⟨rfl, rfl, fun k => { k with }, fun h => { h with }, fun k => { k with }, id⟩

end Sys2Proof.Laws
end

