-- ==== Sys2Proof/Laws/Quota.lean ====
section
/-! SUPPORT. What QTU's operations keep. -/

namespace Sys2Proof.Laws

open Sys2Proof.Machine Sys2Proof.Safety

theorem kept_evaluateWarning (i : Nat) (w : Work) : Kept w.toRecords (evaluateWarning i w).toRecords := by
  unfold evaluateWarning
  split
  · exact .refl _
  · rename_i a ha
    split
    · exact .refl _
    · exact kept_setAccount_same ha rfl rfl

theorem kept_changeReserved (i x y : Nat) (f : Nat → Nat → Nat) (w : Work) :
    Kept w.toRecords (changeReserved i x y f w).toRecords := by
  unfold changeReserved
  split
  · exact .refl _
  · rename_i a ha
    have h := kept_setAccount_same (w := w) (a' := { a with reserved := f a.reserved x }) ha rfl rfl
    dsimp only
    split
    · exact h
    · exact h.trans (kept_updatePool fun _ h => h)

theorem kept_reserve (i x y : Nat) (w : Work) : Kept w.toRecords (reserve i x y w).toRecords :=
  (kept_changeReserved _ _ _ _ _).trans (kept_evaluateWarning _ _)

theorem kept_refund (i : Nat) (g : Grant) (w : Work) : Kept w.toRecords (refund i g w).toRecords :=
  (kept_changeReserved _ _ _ _ _).trans (kept_evaluateWarning _ _)

/-- A balance lowered by a settlement stays in its bounds (R25, R26). -/
theorem lower_bounded {b : Int} (n : Nat) (h : -1048575 ≤ b ∧ b ≤ 2000000) :
    -1048575 ≤ lower b n ∧ lower b n ≤ 2000000 := by
  simp only [lower, Config.minBalance]; omega

/-- A credited balance stays in its bounds (R26). -/
theorem credited_bounded (b n : Int) : -1048575 ≤ credited b n ∧ credited b n ≤ 2000000 := by
  simp only [credited, Config.minBalance, Config.maxBalance]; omega

/-- A replenished balance stays in its bounds (R26, R33). -/
theorem replenished_bounded {b : Int} {a : Nat} (h : -1048575 ≤ b ∧ b ≤ 2000000) (ha : a ≤ 1000000) :
    -1048575 ≤ replenished b a ∧ replenished b a ≤ 2000000 := by
  simp only [replenished]; omega

theorem kept_postSettlement (i : Nat) (g : Grant) (a : Nat) (w : Work) :
    Kept w.toRecords (postSettlement i g a w).toRecords := by
  unfold postSettlement
  split
  · exact .refl _
  · rename_i acct hacct
    refine Kept.trans ?_ (kept_evaluateWarning _ _)
    have bounded : BalancesBounded w.toRecords → AccountBounded acct := fun k => k.accounts _ (Table.mem_of_lookup hacct)
    have h := kept_setAccount (w := w) (i := i)
      (a := { acct with
        balance := lower acct.balance (settledParts g a).1
        reserved := acct.reserved - g.accountPart
        usedPeriod := saturate (acct.usedPeriod + a)
        today := saturate (acct.today + a) })
      (fun k => (k.accounts.bounds hacct).2)
      (fun k => ⟨(lower_bounded _ ⟨(bounded k).1, (bounded k).2.1⟩).1, (lower_bounded _ ⟨(bounded k).1, (bounded k).2.1⟩).2,
        (bounded k).2.2⟩)
    split
    · exact h
    · refine h.trans (kept_updatePool fun p k => ?_)
      exact ⟨(lower_bounded _ ⟨k.1, k.2.1⟩).1, (lower_bounded _ ⟨k.1, k.2.1⟩).2, k.2.2⟩

theorem kept_quotaDayRoll (w : Work) : Kept w.toRecords (quotaDayRoll w).toRecords where
  settings := rfl
  clock := rfl
  tables h := { h with accounts := h.accounts.map _ }
  balances h := by
    refine { h with accounts := fun e he => ?_ }
    obtain ⟨e', he', rfl⟩ := List.mem_map.mp he
    exact h.accounts e' he'
  counts h := { h with }
  visits h := h

theorem kept_replenishAccount (w : Work) (i : Nat) : Kept w.toRecords (replenishAccount w i).toRecords := by
  refine Kept.trans ?_ (kept_evaluateWarning _ _)
  unfold Work.updateAccount
  split
  · exact .refl _
  · rename_i a ha
    refine kept_setAccount (fun k => (k.accounts.bounds ha).2) (fun k => ?_)
    have k := k.accounts _ (Table.mem_of_lookup ha)
    exact ⟨(replenished_bounded ⟨k.1, k.2.1⟩ k.2.2).1, (replenished_bounded ⟨k.1, k.2.1⟩ k.2.2).2, k.2.2⟩

theorem kept_periodRoll (index : Nat) (w : Work) : Kept w.toRecords (periodRoll index w).toRecords := by
  refine (Kept.foldl kept_replenishAccount w.adir.accounts.indices w).trans ?_
  refine ⟨rfl, rfl, fun h => { h with pools := h.pools.map _ }, fun h => { h with pools := ?_ }, fun h => { h with }, id⟩
  intro e he
  obtain ⟨e', he', rfl⟩ := List.mem_map.mp he
  have k := h.pools e' he'
  exact ⟨(replenished_bounded ⟨k.1, k.2.1⟩ k.2.2).1, (replenished_bounded ⟨k.1, k.2.1⟩ k.2.2).2, k.2.2⟩

/-- The warning's evaluation reaches the account table alone (R27). -/
theorem evaluateWarning_frame (i : Nat) (w : Work) :
    (evaluateWarning i w).hq = w.hq ∧ (evaluateWarning i w).rlu = w.rlu ∧ (evaluateWarning i w).ptb = w.ptb
      ∧ (evaluateWarning i w).spu = w.spu ∧ (evaluateWarning i w).cou = w.cou ∧ (evaluateWarning i w).qtu = w.qtu := by
  unfold evaluateWarning
  split
  · simp
  · split <;> simp

theorem changeReserved_frame (i x y : Nat) (f : Nat → Nat → Nat) (w : Work) :
    (changeReserved i x y f w).hq = w.hq ∧ (changeReserved i x y f w).rlu = w.rlu ∧ (changeReserved i x y f w).ptb = w.ptb
      ∧ (changeReserved i x y f w).spu = w.spu ∧ (changeReserved i x y f w).cou = w.cou
      ∧ (changeReserved i x y f w).qtu = w.qtu ∧ (changeReserved i x y f w).raised = w.raised := by
  unfold changeReserved Work.updatePool
  split
  · simp
  · dsimp only
    split
    · simp
    · split <;> simp

/-- A reservation reaches the account and pool tables alone (R21). -/
theorem reserve_frame (i x y : Nat) (w : Work) :
    (reserve i x y w).hq = w.hq ∧ (reserve i x y w).rlu = w.rlu ∧ (reserve i x y w).ptb = w.ptb
      ∧ (reserve i x y w).spu = w.spu ∧ (reserve i x y w).cou = w.cou ∧ (reserve i x y w).qtu = w.qtu := by
  obtain ⟨a, b, c, d, e, f⟩ := evaluateWarning_frame i (changeReserved i x y (· + ·) w)
  obtain ⟨a', b', c', d', e', f', -⟩ := changeReserved_frame i x y (· + ·) w
  exact ⟨a.trans a', b.trans b', c.trans c', d.trans d', e.trans e', f.trans f'⟩

/-- A refund reaches the account and pool tables alone (R23). -/
theorem refund_frame (i : Nat) (g : Grant) (w : Work) :
    (refund i g w).hq = w.hq ∧ (refund i g w).rlu = w.rlu ∧ (refund i g w).ptb = w.ptb ∧ (refund i g w).spu = w.spu
      ∧ (refund i g w).cou = w.cou ∧ (refund i g w).qtu = w.qtu := by
  obtain ⟨a, b, c, d, e, f⟩ := evaluateWarning_frame i (changeReserved i g.accountPart g.poolPart (· - ·) w)
  obtain ⟨a', b', c', d', e', f', -⟩ := changeReserved_frame i g.accountPart g.poolPart (· - ·) w
  exact ⟨a.trans a', b.trans b', c.trans c', d.trans d', e.trans e', f.trans f'⟩

/-! ### The split of a settlement (R24) -/

/-- The settled parts sum to the charge, and the settled pool part never exceeds the reserved one (R24). -/
theorem settledParts_sum (g : Grant) (a : Nat) : (settledParts g a).1 + (settledParts g a).2 = a := by
  unfold settledParts
  dsimp only
  split <;> dsimp only <;> omega

theorem settledParts_pool_le (g : Grant) (a : Nat) : (settledParts g a).2 ≤ g.poolPart := by
  unfold settledParts
  dsimp only
  split <;> dsimp only <;> omega

end Sys2Proof.Laws
end

