-- ==== Sys2Proof/Laws/Supply.lean ====
section
/-! SUPPORT. What COU's and SPU's operations keep. -/

namespace Sys2Proof.Laws

open Sys2Proof.Machine Sys2Proof.Safety

theorem kept_putTicket (t : Ticket) (w : Work) : Kept w.toRecords (putTicket t w).toRecords :=
  kept_setTickets fun k => by rw [List.length_map]; exact k.tickets

theorem kept_dispatch (level : Nat) (t : Ticket) (w : Work) : Kept w.toRecords (dispatch level t w).toRecords :=
  kept_putTicket _ _

/-- A type found through a slot stands in the table. -/
theorem slotType?_lookup {r : Records} {key i : Nat} {t : SupplyType} (h : slotType? r key = some (i, t)) :
    r.spu.types.lookup i = some t := by
  unfold slotType? at h
  split at h
  · simp at h
  · simp only [Option.map_eq_some_iff, Prod.mk.injEq] at h
    obtain ⟨t', ht, rfl, rfl⟩ := h
    exact ht

/-- A unit is reserved only where there is free stock, and its slot joins the end of the list (R130). -/
theorem reserveUnit?_eq {key : Nat} {w w' : Work} (h : reserveUnit? key w = some w') :
    ∃ i t, slotType? w.toRecords key = some (i, t) ∧ 0 < t.free
      ∧ w' = w.setType i { t with reservations := t.reservations ++ [key] } := by
  unfold reserveUnit? at h
  split at h
  · simp at h
  · rename_i i t ht
    split at h
    · exact ⟨i, t, ht, ‹_›, by simpa using h.symm⟩
    · simp at h

theorem kept_reserveUnit? {key : Nat} {w w' : Work} (h : reserveUnit? key w = some w') : Kept w.toRecords w'.toRecords := by
  obtain ⟨i, t, ht, -, rfl⟩ := reserveUnit?_eq h
  exact kept_setType_of_lookup (slotType?_lookup ht) _

theorem kept_giveBackUnit (key : Nat) (w : Work) : Kept w.toRecords (giveBackUnit key w).toRecords := by
  unfold giveBackUnit
  split
  · exact .refl _
  · rename_i h; exact kept_setType_of_lookup (slotType?_lookup h) _

theorem kept_handUnit (w : Work) (t : Ticket) : Kept w.toRecords (handUnit w t).toRecords := by
  unfold handUnit
  split
  · split
    · exact .refl _
    · rename_i h; exact (kept_reserveUnit? h).trans (kept_dispatch _ _ _)
  · exact .refl _

theorem kept_handOut (w : Work) : Kept w.toRecords (handOut w).toRecords := Kept.foldl kept_handUnit _ _

theorem kept_standDown (key : Nat) (w : Work) : Kept w.toRecords (standDown key w).toRecords := by
  unfold standDown
  split
  · exact .refl _
  · exact kept_putTicket _ _

theorem kept_withdrawUnits (i n : Nat) (w : Work) : Kept w.toRecords (withdrawUnits i n w).toRecords := by
  induction n generalizing w with
  | zero => exact .refl _
  | succ n ih =>
    simp only [withdrawUnits]
    split
    · exact .refl _
    · rename_i h
      split
      · exact .refl _
      · exact ((kept_setType_of_lookup h _).trans (kept_standDown _ _)).trans (ih _)

/-- A ticket is opened, where fewer than 64 are open (R143, R145). -/
theorem kept_openTicket {p : Nat} {kind : CauseKind} {arisen : Nat} {w : Work} (h : w.cou.tickets.length < 64) :
    Kept w.toRecords (openTicket p kind arisen w).toRecords := by
  unfold openTicket
  have h1 : ∀ t n, Kept w.toRecords
      ({ w with cou := { w.cou with tickets := w.cou.tickets ++ [t], lastTicket := n } } : Work).toRecords := fun t n =>
    ⟨rfl, rfl, fun k => { k with }, fun k => { k with }, fun k => { k with tickets := (by
      rw [List.length_append]; simp only [List.length_singleton]; omega) }, id⟩
  dsimp only
  split
  · exact (h1 _ _).trans (kept_dispatch _ _ _)
  · split
    · exact h1 _ _
    · rename_i h2; exact ((h1 _ _).trans (kept_reserveUnit? h2)).trans (kept_dispatch _ _ _)

theorem kept_arise (p : Nat) (kind : CauseKind) (w : Work) : Kept w.toRecords (arise p kind w).toRecords := by
  unfold arise
  split
  · exact kept_openTicket ‹_›
  · exact kept_setBacklog _ _

theorem kept_openOwedFrom (l : List OwedCause) (w : Work) : Kept w.toRecords (openOwedFrom l w).toRecords := by
  induction l generalizing w with
  | nil => exact kept_setBacklog _ _
  | cons o rest ih =>
    simp only [openOwedFrom]
    split
    · exact (kept_openTicket ‹_›).trans (ih _)
    · exact kept_setBacklog _ _

theorem kept_openOwed (w : Work) : Kept w.toRecords (openOwed w).toRecords := kept_openOwedFrom _ _

theorem kept_dropOwed (p : OwedCause → Bool) (w : Work) : Kept w.toRecords (dropOwed p w).toRecords := kept_setBacklog _ _

theorem kept_removeTicket (t : Ticket) (reason : ResolveReason) (gaveBack : Bool) (w : Work) :
    Kept w.toRecords (removeTicket t reason gaveBack w).toRecords :=
  kept_setTickets fun k => (List.length_filter_le _ _).trans k.tickets

theorem kept_resolveTicket (reason : ResolveReason) (w : Work) (t : Ticket) :
    Kept w.toRecords (resolveTicket reason w t).toRecords := by
  unfold resolveTicket
  split
  · split
    · exact (kept_giveBackUnit _ _).trans (kept_removeTicket _ _ _ _)
    · exact kept_removeTicket _ _ _ _
  · exact kept_removeTicket _ _ _ _

theorem kept_resolveWhere (p : Ticket → Bool) (reason : ResolveReason) (w : Work) :
    Kept w.toRecords (resolveWhere p reason w).toRecords := Kept.foldl (kept_resolveTicket reason) _ _

theorem kept_evaluateAlarm (w : Work) : Kept w.toRecords (evaluateAlarm w).toRecords :=
  ⟨rfl, rfl, fun k => { k with }, fun k => { k with }, fun k => { k with }, id⟩

/-- REORDER_DUE changes no record. -/
theorem raiseReorder_records (w : Work) (i : Nat) : (raiseReorder w i).toRecords = w.toRecords := by
  unfold raiseReorder
  split <;> rfl

theorem foldl_raiseReorder_records (l : List Nat) (w : Work) : (l.foldl raiseReorder w).toRecords = w.toRecords := by
  induction l generalizing w with
  | nil => rfl
  | cons i rest ih => exact (ih _).trans (raiseReorder_records w i)

/-- The evaluation of the order states changes no record: it may only raise REORDER_DUE (R133). -/
theorem orderPoint_records (w : Work) : (orderPoint w).toRecords = w.toRecords := foldl_raiseReorder_records _ w

theorem kept_orderPoint (w : Work) : Kept w.toRecords (orderPoint w).toRecords := by
  rw [orderPoint_records]; exact .refl _

theorem kept_endHandling (w : Work) : Kept w.toRecords (endHandling w).toRecords :=
  (((kept_handOut w).trans (kept_openOwed _)).trans (kept_evaluateAlarm _)).trans (kept_orderPoint _)

/-! ### The estimate -/

theorem kept_raiseSlotLevel (p : Nat) (l : SlotLetter) (previous : Option LevelState) (cause : SlotCause) (w : Work) :
    Kept w.toRecords (raiseSlotLevel p l previous cause w).toRecords := by
  unfold raiseSlotLevel
  split <;> exact .refl _

theorem kept_evaluateSlot (p : Nat) (l : SlotLetter) (cause : SlotCause) (correction : Bool) (w : Work) :
    Kept w.toRecords (evaluateSlot p l cause correction w).toRecords := by
  unfold evaluateSlot
  split
  · exact .refl _
  · rename_i h
    split
    · exact .refl _
    · have k := fun s => kept_setSlot_of_lookup (w := w) h s
      dsimp only
      split
      · refine Kept.trans ?_ (kept_raiseSlotLevel _ _ _ _ _)
        split
        · exact (k _).trans (kept_arise _ _ _)
        · exact k _
      · split
        · exact (k _).trans (kept_arise _ _ _)
        · exact k _

theorem kept_consume (p units sides : Nat) (l : SlotLetter) (w : Work) :
    Kept w.toRecords (consume p units sides l w).toRecords := by
  unfold consume
  split
  · exact .refl _
  · rename_i h; exact (kept_setSlot_of_lookup h _).trans (kept_evaluateSlot _ _ _ _ _)

theorem kept_applyConsumption (p : Nat) (size : SizeClass) (mono colour : Nat) (v : Coverage) (w : Work) :
    Kept w.toRecords (applyConsumption p size mono colour v w).toRecords :=
  (((kept_consume _ _ _ _ _).trans (kept_consume _ _ _ _ _)).trans (kept_consume _ _ _ _ _)).trans (kept_consume _ _ _ _ _)

theorem kept_readSensor (p : Nat) (l : SlotLetter) (reading : Reading) (w : Work) :
    Kept w.toRecords (readSensor p l reading w).toRecords := by
  unfold readSensor
  split
  · exact .refl _
  · rename_i h
    have k : ∀ n s, Kept w.toRecords (orderPoint (correctSlot p n l s w)).toRecords := fun n s =>
      ((kept_setSlot_of_lookup h _).trans (kept_evaluateSlot _ _ _ _ _)).trans (kept_orderPoint _)
    split
    · exact .refl _
    · split
      · exact .refl _
      · exact k _ _
    · split
      · exact .refl _
      · split
        · exact k _ _
        · exact .refl _

theorem kept_rollSlot (w : Work) (key : Nat) : Kept w.toRecords (rollSlot w key).toRecords := by
  unfold rollSlot
  split
  · exact .refl _
  · rename_i h
    exact ((kept_setSlot_of_lookup h _).trans (kept_evaluateSlot _ _ _ _ _)).trans (kept_orderPoint _)

theorem kept_supplyDayRoll (w : Work) : Kept w.toRecords (supplyDayRoll w).toRecords := Kept.foldl kept_rollSlot _ _

end Sys2Proof.Laws
end

