-- ==== Sys2Proof/Laws/Clock.lean ====
section
/-! SUPPORT. What a day roll keeps: all that the other operations keep, but for the day index and the countdown. -/

namespace Sys2Proof.Laws

open Sys2Proof.Machine Sys2Proof.Safety

/-- What a day roll keeps (R170). -/
structure Rolled (a b : Records) : Prop where
  settings : settingsOf b = settingsOf a
  clock : ∃ index countdown, b.fck = { a.fck with dayIndex := index, countdown := countdown }
  sound : ClockSound a → ClockSound b
  tables : TablesSound a → TablesSound b
  balances : BalancesBounded a → BalancesBounded b
  counts : CountsBounded a → CountsBounded b
  visits : a.rlu.visits = [] → b.rlu.visits = []

theorem ClockSound.of_kept {a b : Records} (h : Kept a b) (k : ClockSound a) : ClockSound b := by
  have hq : b.qtu = a.qtu := congrArg (·.1) h.settings
  have hf := h.clock
  obtain ⟨k1, k2, k3, k4, k5⟩ := k
  constructor <;> simp_all

theorem Kept.rolled {a b : Records} (h : Kept a b) : Rolled a b :=
  ⟨h.settings, ⟨a.fck.dayIndex, a.fck.countdown, h.clock⟩, ClockSound.of_kept h, h.tables, h.balances, h.counts, h.visits⟩

theorem Rolled.trans {a b c : Records} (h : Rolled a b) (k : Rolled b c) : Rolled a c := by
  refine ⟨k.settings.trans h.settings, ?_, k.sound ∘ h.sound, k.tables ∘ h.tables, k.balances ∘ h.balances,
    k.counts ∘ h.counts, k.visits ∘ h.visits⟩
  obtain ⟨i, n, hi⟩ := h.clock
  obtain ⟨i', n', hi'⟩ := k.clock
  exact ⟨i', n', by rw [hi', hi]⟩

/-- The clock's own part of a day roll, with the period roll it may bring (R170 steps 1 and 3, R171). -/
theorem rolled_dayRoll (w : Work) : Rolled w.toRecords (dayRoll w).toRecords := by
  unfold dayRoll
  refine Rolled.trans ?_ ((kept_quotaDayRoll _).trans (kept_supplyDayRoll _)).rolled
  dsimp only
  have hmod : (w.fck.dayIndex + 1) % 65536 < 65536 := Nat.mod_lt _ (by decide)
  split
  · have h := kept_periodRoll ((w.fck.dayIndex + 1) % 65536)
      { w with fck := { w.fck with dayIndex := (w.fck.dayIndex + 1) % 65536, countdown := w.fck.countdown - 1 } }
    generalize periodRoll ((w.fck.dayIndex + 1) % 65536)
      { w with fck := { w.fck with dayIndex := (w.fck.dayIndex + 1) % 65536, countdown := w.fck.countdown - 1 } } = v at h
    have hq : v.qtu = w.qtu := congrArg (·.1) h.settings
    have hc := h.clock
    refine ⟨h.settings, ⟨_, _, by rw [hc]⟩, fun k => ?_, fun k => { h.tables { k with } with },
      fun k => { h.balances { k with } with }, fun k => { h.counts { k with } with }, h.visits⟩
    refine ⟨by rw [hc]; exact k.uptime, by rw [hc]; exact hmod, by rw [hq]; exact k.period, by rw [hq]; exact k.period, ?_⟩
    rw [hc]; exact k.unset
  · rename_i hn
    refine ⟨rfl, ⟨_, _, rfl⟩, fun k => ⟨k.uptime, hmod, ⟨?_, ?_⟩, k.period, k.unset⟩, fun k => { k with },
      fun k => { k with }, fun k => { k with }, id⟩
    · exact Nat.one_le_iff_ne_zero.mpr hn
    · exact (Nat.sub_le _ _).trans k.countdown.2

theorem rolled_dayRolls (n : Nat) (w : Work) : Rolled w.toRecords (dayRolls n w).toRecords := by
  induction n generalizing w with
  | zero => exact (Kept.refl _).rolled
  | succ n ih => exact (rolled_dayRoll w).trans (ih _)

end Sys2Proof.Laws
end

