-- ==== Sys2Proof/Laws/Jobs.lean ====
section
/-! SUPPORT. What HQ's and RLU's operations keep. -/

namespace Sys2Proof.Laws

open Sys2Proof.Machine Sys2Proof.Safety

theorem kept_closeVisit (p : Nat) (reason : CloseReason) (w : Work) : Kept w.toRecords (closeVisit p reason w).toRecords := by
  unfold closeVisit
  split
  · exact .refl _
  · exact (kept_dropVisit w p).trans (kept_updateAccount fun _ => ⟨rfl, rfl⟩)

theorem kept_closeAccountVisit (a : Nat) (reason : CloseReason) (w : Work) :
    Kept w.toRecords (closeAccountVisit a reason w).toRecords := by
  unfold closeAccountVisit
  split
  · exact .refl _
  · exact kept_closeVisit _ _ _

theorem kept_visitAfterLeaving (n a : Nat) (w : Work) : Kept w.toRecords (visitAfterLeaving n a w).toRecords := by
  unfold visitAfterLeaving
  split
  · exact .refl _
  · split
    · exact .refl _
    · rename_i h; split <;> exact kept_setVisit_of_lookup h _
    · rename_i h
      split
      · have k := fun v => kept_setVisit_of_lookup (w := w) h v
        dsimp only
        split
        · exact (k _).trans (kept_closeVisit _ _ _)
        · exact k _
      · exact .refl _

theorem kept_offerJob (n a : Nat) (w : Work) : Kept w.toRecords (offerJob n a w).toRecords := by
  unfold offerJob
  split
  · exact .refl _
  · split
    · rename_i h
      split
      · exact .refl _
      · split <;> exact kept_setVisit_of_lookup h _
    · exact .refl _

theorem kept_setJobList_erase (w : Work) (owner n : Nat) :
    Kept w.toRecords (w.setJobList owner ((jobList w.toRecords owner).erase n)).toRecords := by
  refine kept_setJobList fun k hl => (k.lists.bounds_of_list (i := owner) ?_).2
  intro h
  exact hl (by simp [jobList, h])

theorem kept_leaveQueue (n owner : Nat) (w : Work) : Kept w.toRecords (leaveQueue n owner w).toRecords := by
  refine Kept.trans ?_ (kept_visitAfterLeaving _ _ _)
  refine Kept.trans ?_ (kept_dropJob _ n)
  refine Kept.trans (kept_setJobList_erase w owner n) ?_
  exact kept_updateAccount fun _ => ⟨rfl, rfl⟩

theorem kept_removeJob (n : Nat) (reason : RemovalReason) (left : Nat) (w : Work) :
    Kept w.toRecords (removeJob n reason left w).toRecords := by
  unfold removeJob
  split
  · exact .refl _
  · exact kept_leaveQueue _ _ _

theorem kept_rerouteJob (p : Nat) (w : Work) (n : Nat) : Kept w.toRecords (rerouteJob p w n).toRecords := by
  unfold rerouteJob
  split
  · exact .refl _
  · rename_i h
    split
    · exact .refl _
    · exact kept_setJob_of_lookup h _

theorem kept_reroutePass (p : Nat) (w : Work) : Kept w.toRecords (reroutePass p w).toRecords :=
  Kept.foldl (fun w n => kept_rerouteJob p w n) _ _

theorem kept_joinFlight {p n owner : Nat} {d : Deadline} {w : Work} (hp : TablesSound w.toRecords → p < 96)
    (hl : (inFlightList w.toRecords p).length < 4) : Kept w.toRecords (joinFlight p n owner d w).toRecords :=
  (kept_setInFlight (fun k _ => hp k) (fun _ => by rw [List.length_append]; simp only [List.length_singleton]; omega)).trans
    (kept_updateAccount fun _ => ⟨rfl, rfl⟩)

theorem kept_leaveFlight (p n owner : Nat) (w : Work) : Kept w.toRecords (leaveFlight p n owner w).toRecords :=
  (kept_setInFlight_shorter (List.length_filter_le _ _)).trans (kept_updateAccount fun _ => ⟨rfl, rfl⟩)

/-- A grant of a live job, at a printer whose list has room (R67, R72). -/
theorem kept_grantJob {p n x y : Nat} {j j' : Job} {w : Work}
    (hp : ∀ r : Records, r.rlu.visits = w.rlu.visits → TablesSound r → p < 96)
    (hl : (inFlightList w.toRecords p).length < 4) (hj : w.hq.jobs.lookup n = some j') :
    Kept w.toRecords (grantJob p n j x y w).toRecords := by
  have h1 : Kept w.toRecords
      ({ w with rlu := { w.rlu with lastGrant := nextGrant w.rlu.lastGrant } } : Work).toRecords :=
    ⟨rfl, rfl, fun k => { k with }, fun k => { k with }, fun k => { k with }, id⟩
  refine h1.trans ?_
  refine Kept.trans ?_ (kept_joinFlight (hp _ rfl) hl)
  exact kept_setJob_of_lookup (w := { w with rlu := { w.rlu with lastGrant := nextGrant w.rlu.lastGrant } }) hj _

theorem kept_completeAccount (i : Nat) (w : Work) : Kept w.toRecords (completeAccount i w).toRecords := by
  unfold completeAccount
  split
  · exact .refl _
  · split
    · split
      · have h := kept_filterBadges w (fun b => b.account != i)
        dsimp only
        split
        · exact h.trans (kept_dropAccount _ _)
        · refine h.trans ?_
          refine Kept.trans ?_ (kept_dropAccount _ _)
          exact kept_updatePool fun _ k => k
      · exact .refl _
    · exact .refl _

theorem kept_completeAccounts (l : List Nat) (w : Work) : Kept w.toRecords (completeAccounts l w).toRecords :=
  Kept.foldl (fun w i => kept_completeAccount i w) _ _

theorem kept_raisePrinterState (i previous : Nat) (w : Work) :
    Kept w.toRecords (raisePrinterState i previous w).toRecords := by
  unfold raisePrinterState
  split <;> exact .refl _

theorem kept_completePrinter (i : Nat) (w : Work) : Kept w.toRecords (completePrinter i w).toRecords := by
  unfold completePrinter
  split
  · exact .refl _
  · split
    · split
      · exact kept_dropPrinter w i
      · exact .refl _
    · exact .refl _

theorem kept_takeBack {n : Nat} {failed : Bool} {from? : Option Nat} {j j' : Job} {w : Work}
    (hj : w.hq.jobs.lookup n = some j') : Kept w.toRecords (takeBack n failed from? j w).toRecords := by
  unfold takeBack
  have h := fun k => kept_setJob_of_lookup (w := w) hj k
  dsimp only
  split
  · exact (h _).trans (kept_removeJob _ _ _ _)
  · refine Kept.trans ?_ (kept_offerJob _ _ _)
    split
    · exact h _
    · exact (h _).trans (kept_rerouteJob _ _ _)

theorem leaveFlight_jobs (p n owner : Nat) (w : Work) : (leaveFlight p n owner w).hq = w.hq := by
  unfold leaveFlight Work.updateAccount
  split <;> simp

theorem kept_endRelease (failed : Bool) (from? : Option Nat) (w : Work) (n : Nat) :
    Kept w.toRecords (endRelease failed from? w n).toRecords := by
  unfold endRelease
  split
  · exact .refl _
  · rename_i j hj
    split
    · refine ((kept_leaveFlight _ _ _ _).trans (kept_refund _ _ _)).trans (kept_takeBack (j' := j) ?_)
      rw [(refund_frame _ _ _).1, leaveFlight_jobs]
      exact hj
    · exact .refl _

theorem kept_returnReleasing (p : Nat) (from? : Option Nat) (w : Work) :
    Kept w.toRecords (returnReleasing p from? w).toRecords :=
  Kept.foldl (kept_endRelease false from?) _ _

end Sys2Proof.Laws
end

