-- ==== Sys2Proof/Laws/Link.lean ====
section
/-! SUPPORT. The link: what placing a notice, taking a request and taking an event leave. -/

namespace Sys2Proof.Laws

open Sys2Proof.Machine Sys2Proof.Safety

/-! ### Taking a command (R179) -/

/-- A request that is taken leaves what its handling worked, and one reply. -/
theorem takeRequest_of_taken {s : State} {c : Instr} (h : Taken s c) (code : Nat) (tag : Tag) (f : Work → Work × Answer) :
    takeRequest c code tag f s = worked s code tag (f s.work).1 (f s.work).2.outcome (f s.work).2.body := by
  obtain ⟨hp, hh, hr⟩ := h
  unfold takeRequest
  cases hq : s.lnk.requests with
  | nil => simp [hq] at hh
  | cons e rest =>
    have he : e = .request c := by simpa [hq] using hh
    subst he
    simp [hp, Lnk.replyRoom, Config.replyQueue, hr, carryOut, worked, answered, hq, State.work]

/-- A read that is taken changes no record. -/
theorem takeRequest_reads_of_taken {s : State} {c : Instr} (h : Taken s c) (code : Nat) (tag : Tag) (f : Records → Answer) :
    takeRequest c code tag (reads f) s = replied s code tag (f s.toRecords).outcome (f s.toRecords).body := by
  rw [takeRequest_of_taken h]; rfl

/-- An event is taken while main power is on. -/
theorem takeEvent_of_power {s : State} (h : s.lnk.mainPower = true) (f : Work → Work) :
    takeEvent f s = passed s (f s.work) := by
  simp [takeEvent, h, State.commit, passed, happened]

theorem takeEvent_of_no_power {s : State} (h : s.lnk.mainPower = false) (f : Work → Work) : takeEvent f s = s := by
  simp [takeEvent, h]

/-! ### The frame of a notice (R181) -/

/-- Placing a notice reaches the notice queue, the owed list and NOTICES_LOST alone. -/
theorem place_frame (l : Lnk) (r : Raised) :
    l.place r = { l with notices := (l.place r).notices, owed := (l.place r).owed, noticesLost := (l.place r).noticesLost } := by
  unfold Lnk.place
  split
  · rfl
  · split
    · rfl
    · split
      · rfl
      · split <;> rfl

theorem placeAll_frame (l : Lnk) (rs : List Raised) :
    l.placeAll rs =
      { l with notices := (l.placeAll rs).notices, owed := (l.placeAll rs).owed, noticesLost := (l.placeAll rs).noticesLost } := by
  induction rs generalizing l with
  | nil => rfl
  | cons r rest ih =>
    have h := ih (l.place r)
    rw [place_frame l r] at h
    simp only [Lnk.placeAll, List.foldl_cons] at h ⊢
    rw [place_frame l r]
    exact h

@[simp] theorem placeAll_requests (l : Lnk) (rs : List Raised) : (l.placeAll rs).requests = l.requests := by
  rw [placeAll_frame]
@[simp] theorem placeAll_replies (l : Lnk) (rs : List Raised) : (l.placeAll rs).replies = l.replies := by
  rw [placeAll_frame]
@[simp] theorem placeAll_mask (l : Lnk) (rs : List Raised) : (l.placeAll rs).mask = l.mask := by rw [placeAll_frame]
@[simp] theorem placeAll_mainPower (l : Lnk) (rs : List Raised) : (l.placeAll rs).mainPower = l.mainPower := by
  rw [placeAll_frame]
@[simp] theorem placeAll_linkResetHeld (l : Lnk) (rs : List Raised) : (l.placeAll rs).linkResetHeld = l.linkResetHeld := by
  rw [placeAll_frame]
@[simp] theorem placeAll_retention (l : Lnk) (rs : List Raised) : (l.placeAll rs).retention = l.retention := by
  rw [placeAll_frame]
@[simp] theorem placeAll_startKind (l : Lnk) (rs : List Raised) : (l.placeAll rs).startKind = l.startKind := by
  rw [placeAll_frame]
@[simp] theorem placeAll_inboxOverrun (l : Lnk) (rs : List Raised) : (l.placeAll rs).inboxOverrun = l.inboxOverrun := by
  rw [placeAll_frame]
@[simp] theorem placeAll_dataOut (l : Lnk) (rs : List Raised) : (l.placeAll rs).dataOut = l.dataOut := by
  rw [placeAll_frame]

/-! ### The notice queue and the owed list (R181) -/

/-- The capacities of the notice queue and the owed list, the owed list in use only behind a full queue, and no key twice. -/
structure NoticesSound (l : Lnk) : Prop where
  notices : l.notices.length ≤ 64
  owed : l.owed.length ≤ 1024
  owedBehindFull : l.owed ≠ [] → l.notices.length = 64
  keysOnce : ((l.notices ++ l.owed).map noticeKey).Nodup

theorem sameKey_iff (r : Raised) (n : Notice) : sameKey r n = true ↔ noticeKey n = (r.kind, r.key) := by
  simp [sameKey, noticeKey]

theorem noticeKey_coalesce (r : Raised) (n : Notice) : noticeKey (coalesce r n) = noticeKey n := by
  unfold coalesce
  split
  · rename_i h; rw [(sameKey_iff r n).mp h]; rfl
  · rfl

theorem map_noticeKey_coalesce (r : Raised) (l : List Notice) : (l.map (coalesce r)).map noticeKey = l.map noticeKey := by
  rw [List.map_map]
  exact List.map_congr_left fun n _ => noticeKey_coalesce r n

theorem NoticesSound.place {l : Lnk} (h : NoticesSound l) (r : Raised) : NoticesSound (l.place r) := by
  obtain ⟨h1, h2, h3, h4⟩ := h
  unfold Lnk.place
  split
  · refine ⟨by simpa using h1, h2, by simpa using h3, ?_⟩
    rw [List.map_append] at h4 ⊢
    rw [map_noticeKey_coalesce]; exact h4
  · rename_i hq
    split
    · refine ⟨h1, by simpa using h2, by simpa using h3, ?_⟩
      rw [List.map_append] at h4 ⊢
      rw [map_noticeKey_coalesce]; exact h4
    · rename_i ho
      have fresh : (r.kind, r.key) ∉ (l.notices ++ l.owed).map noticeKey := by
        simp only [List.any_eq_true, sameKey_iff, not_exists, not_and] at hq ho
        simp only [List.map_append, List.mem_append, List.mem_map, not_or, not_exists, not_and]
        exact ⟨hq, ho⟩
      split
      · rename_i hroom
        obtain ⟨hroom, hempty⟩ := hroom
        simp only [List.isEmpty_iff] at hempty
        simp only [Config.noticeQueue] at hroom
        refine ⟨by simp only [List.length_append, List.length_singleton]; omega, h2, fun k => absurd hempty k, ?_⟩
        rw [hempty, List.append_nil] at h4 fresh ⊢
        rw [List.map_append, List.nodup_append]
        refine ⟨h4, by simp, ?_⟩
        rintro a ha b hb rfl
        simp only [List.map_cons, List.map_nil, List.mem_singleton, noticeKey] at hb
        exact fresh (hb ▸ ha)
      · rename_i hroom
        have full : l.notices.length = 64 := by
          by_cases he : l.owed = []
          · simp only [he, List.isEmpty_nil, and_true, Config.noticeQueue, not_lt] at hroom; omega
          · exact h3 he
        split
        · rename_i hspace
          simp only [Config.owedNotices] at hspace
          refine ⟨h1, by simp only [List.length_append, List.length_singleton]; omega, fun _ => full, ?_⟩
          rw [← List.append_assoc, List.map_append, List.nodup_append]
          refine ⟨h4, by simp, ?_⟩
          rintro a ha b hb rfl
          simp only [List.map_cons, List.map_nil, List.mem_singleton, noticeKey] at hb
          exact fresh (hb ▸ ha)
        · exact ⟨h1, h2, h3, h4⟩

theorem NoticesSound.placeAll {l : Lnk} (h : NoticesSound l) (rs : List Raised) : NoticesSound (l.placeAll rs) := by
  induction rs generalizing l with
  | nil => exact h
  | cons r rest ih => exact ih (h.place r)

/-- A read notice leaves, and the oldest owed one takes its place in the queue (R182). -/
theorem NoticesSound.takeNotice {l : Lnk} (h : NoticesSound l) (clocked : Nat) : NoticesSound (l.takeNotice clocked) := by
  obtain ⟨h1, h2, h3, h4⟩ := h
  unfold Lnk.takeNotice
  split
  · exact ⟨h1, h2, h3, h4⟩
  · rename_i n rest hn
    rw [hn] at h1 h3 h4
    simp only [List.length_cons] at h1 h3
    split
    · refine ⟨?_, ?_, ?_, ?_⟩
      · simp only [List.length_append, List.length_take]; omega
      · simp only [List.length_drop]; omega
      · intro hd
        have : l.owed ≠ [] := by rintro e; simp [e] at hd
        have := h3 this
        have : 0 < l.owed.length := List.length_pos_iff.mpr ‹_›
        simp only [List.length_append, List.length_take]; omega
      · dsimp only
        rw [List.append_assoc, List.take_append_drop]
        simp only [List.cons_append, List.map_cons, List.nodup_cons] at h4
        exact h4.2
    · exact ⟨by rw [hn]; exact h1, h2, by rw [hn]; exact h3, by rw [hn]; exact h4⟩

/-! ### Frames (R177) -/

theorem splitRequests_length (frame : List Byte) (fuel place : Nat) (bytes : List Byte) :
    (splitRequests frame fuel place bytes).length ≤ fuel := by
  induction fuel generalizing place bytes with
  | zero => simp [splitRequests]
  | succ n ih =>
    simp only [splitRequests]
    split
    · simp
    · simp only [List.length_cons]
      have := ih (place + 1) ‹_›
      omega

/-- A frame gives at most four entries of the request queue (R177). -/
theorem frameEntries_length (bytes : List Byte) : (frameEntries bytes).length ≤ 4 := by
  unfold frameEntries
  split
  · dsimp only
    split
    · simp
    · exact splitRequests_length _ 4 _ _
  · simp

/-! ### Values in bytes (11.9) -/

@[simp] theorem length_beBytes (w v : Nat) : (beBytes w v).length = w := by
  induction w with
  | zero => rfl
  | succ w ih => simp [beBytes, ih]

theorem beNat_foldl (l : List Byte) (n : Nat) :
    l.foldl (fun n b => n * 256 + b.toNat) n = n * 256 ^ l.length + beNat l := by
  unfold beNat
  induction l generalizing n with
  | nil => simp
  | cons b rest ih =>
    rw [List.foldl_cons, List.foldl_cons, ih, ih (0 * 256 + b.toNat), List.length_cons, pow_succ]
    ring

/-- The bytes of a number are read back as the number, cut to their width. -/
theorem beNat_beBytes (w v : Nat) : beNat (beBytes w v) = v % 256 ^ w := by
  induction w with
  | zero => simp [beBytes, beNat, Nat.mod_one]
  | succ w ih =>
    have h : beNat (beBytes (w + 1) v) = (v / 256 ^ w % 256) * 256 ^ w + beNat (beBytes w v) := by
      conv_lhs => rw [beBytes, beNat, List.foldl_cons, beNat_foldl]
      simp
    rw [h, ih, pow_succ, Nat.mod_mul]
    ring

end Sys2Proof.Laws
end

