-- ==== Sys2Proof/Laws/Printers.lean ====
section
/-! SUPPORT. What PTB's operations keep, and the states its moves leave. -/

namespace Sys2Proof.Laws

open Sys2Proof.Machine Sys2Proof.Safety

theorem kept_tellRelease (p : Nat) (old new : ServiceState) (w : Work) :
    Kept w.toRecords (tellRelease p old new w).toRecords := by
  unfold tellRelease
  split
  · exact (kept_closeVisit _ _ _).trans (kept_returnReleasing _ _ _)
  · exact .refl _

theorem kept_tellHold (p : Nat) (old new : ServiceState) (w : Work) :
    Kept w.toRecords (tellHold p old new w).toRecords := by
  unfold tellHold
  split
  · exact kept_reroutePass _ _
  · exact .refl _

theorem kept_endFault (p : Nat) (reason : ResolveReason) (w : Work) :
    Kept w.toRecords (endFault p reason w).toRecords := (kept_dropOwed _ _).trans (kept_resolveWhere _ _ _)

theorem kept_endAbsence (p : Nat) (w : Work) : Kept w.toRecords (endAbsence p w).toRecords :=
  (kept_dropOwed _ _).trans (kept_resolveWhere _ _ _)

theorem kept_tellCallouts (p : Nat) (old new : ServiceState) (w : Work) :
    Kept w.toRecords (tellCallouts p old new w).toRecords := by
  unfold tellCallouts
  split
  · exact kept_endFault _ _ _
  · exact .refl _
  · exact kept_arise _ _ _
  · exact kept_arise _ _ _
  · exact kept_endFault _ _ _
  · exact .refl _

theorem kept_tellNeighbours (p : Nat) (old new : ServiceState) (w : Work) :
    Kept w.toRecords (tellNeighbours p old new w).toRecords := by
  unfold tellNeighbours
  split
  · exact .refl _
  · exact ((kept_tellRelease _ _ _ _).trans (kept_tellHold _ _ _ _)).trans (kept_tellCallouts _ _ _ _)

/-- A change of the health of a printer that is not FREE (R98). -/
theorem kept_changePrinter {i : Nat} {old new p : Printer} {w : Work} (h : w.ptb.printers.lookup i = some p) :
    Kept w.toRecords (changePrinter i old new w).toRecords := by
  unfold changePrinter
  refine Kept.trans ?_ (kept_tellNeighbours _ _ _ _)
  split
  · exact kept_setPrinter_of_lookup h _
  · exact (kept_setPrinter_of_lookup h _).trans (kept_raisePrinterState _ _ _)

/-- The same, to the end of its handling (R72, R98). -/
theorem kept_finishChange {i : Nat} {old new p : Printer} {w : Work} (h : w.ptb.printers.lookup i = some p) :
    Kept w.toRecords (finishChange i old new w).toRecords :=
  ((kept_changePrinter h).trans (kept_endHandling _)).trans (kept_completeAccounts _ _)

theorem kept_takeReadings (p : Nat) (l : List Reading) (w : Work) : Kept w.toRecords (takeReadings p l w).toRecords :=
  Kept.foldl (β := SlotLetter × Reading) (fun w e => kept_readSensor p e.1 e.2 w) _ _

/-! ### The moves of the service state (R88 to R97) -/

@[simp] theorem toInService_state (now : Nat) (p : Printer) : (toInService now p).state = .inService := rfl
@[simp] theorem toQualifying_state (now : Nat) (ptb : Ptb) (p : Printer) : (toQualifying now ptb p).state = .qualifying := rfl
@[simp] theorem toOutOfService_state (c : OutCause) (p : Printer) : (toOutOfService c p).state = .outOfService c := rfl
@[simp] theorem toRestarting_state (now : Nat) (ptb : Ptb) (p : Printer) : (toRestarting now ptb p).state = .restarting := rfl
@[simp] theorem armHeartbeat_state (now : Nat) (p : Printer) : (armHeartbeat now p).state = p.state := rfl
@[simp] theorem recordReport_state (now : Nat) (live : CondSet) (p : Printer) :
    (recordReport now live p).state = p.state := by unfold recordReport; dsimp only; split <;> rfl
@[simp] theorem recordReport_live (now : Nat) (live : CondSet) (p : Printer) : (recordReport now live p).live = live := rfl
@[simp] theorem recordReport_latched (now : Nat) (live : CondSet) (p : Printer) :
    (recordReport now live p).latched = p.latched ||| live := by unfold recordReport; dsimp only; split <;> rfl
@[simp] theorem recordReport_present (now : Nat) (live : CondSet) (p : Printer) : (recordReport now live p).present = true := by
  unfold recordReport; dsimp only; split <;> rfl

/-- A printer may take a deadline only once it has been reached. -/
theorem reached_of_due {p : Printer} {now : Nat} {d : Deadline} (h : p.due now d = true) : d.reached now = true := by
  simp only [Printer.due, Bool.and_eq_true] at h; exact h.1

end Sys2Proof.Laws
end

