-- ==== Sys2Proof/Tests/Slice0.lean ====
section
/-! SUPPORT. The model's own tests: the ill-formed commands that `Instr.wf` refuses, frames written out from 11.9, the manual's worked
examples, and for each statement a state and operands that meet its hypotheses. -/

namespace Sys2Proof.Tests

-- One theorem after another: their kernel evaluations side by side would take the compile's memory for threads.
set_option Elab.async false

open Sys2Proof.Machine Sys2Proof.Safety

/-! ### Ill-formed commands, one for each check of WellFormed -/

theorem test_tag_of_seven_bytes_refused : (Instr.clockRead [1, 2, 3, 4, 5, 6, 7]).wf = false := by decide
theorem test_account_of_three_bytes_refused : (Instr.accountRead [] 65536).wf = false := by decide
theorem test_pool_of_two_bytes_refused : (Instr.poolRead [] 256).wf = false := by decide
theorem test_badge_of_five_bytes_refused : (Instr.badgeFind [] 4294967296).wf = false := by decide
theorem test_credit_beyond_32_bits_refused : (Instr.accountCredit [] 0 2147483648).wf = false := by decide
theorem test_credit_below_32_bits_refused : (Instr.poolCredit [] 0 (-2147483649)).wf = false := by decide
theorem test_open_pool_of_two_bytes_refused : (Instr.accountOpen [] ⟨0, some 256, 0, 0, 0, 0, 0⟩).wf = false := by decide
theorem test_set_pool_of_two_bytes_refused :
    (Instr.accountSet [] ⟨0, some (some 256), none, none, none, none, none⟩).wf = false := by decide
theorem test_setting_of_two_bytes_refused : (Instr.quotaConfig [] none (some 256) none).wf = false := by decide
theorem test_submit_size_of_two_bytes_refused : (Instr.jobSubmit [] ⟨0, 0, 0, 256, 0, 0, 0⟩).wf = false := by decide
theorem test_pages_sum_of_five_bytes_refused :
    (Instr.pagesDone [] ⟨1, 1, 0, 0, 0, 0, 0, 4294967296⟩).wf = false := by decide
theorem test_release_window_refused : (Instr.releaseConfig [] ⟨none, some 65536, none, none⟩).wf = false := by decide
theorem test_printer_floor_refused :
    (Instr.printerAdd [] ⟨0, 256, none, 0, 0, 0, 0, 0, 0, 0, 0⟩).wf = false := by decide
theorem test_printer_set_slots_refused :
    (Instr.printerSet [] ⟨0, none, none, none, none, none, none, some 256, none, none, none⟩).wf = false := by decide
theorem test_reading_of_two_bytes_refused : (Instr.statusReport [] 0 0 [0, 256]).wf = false := by decide
theorem test_readings_beyond_255_refused : (Instr.statusReport [] 0 0 (List.replicate 256 0)).wf = false := by decide +kernel
theorem test_health_time_refused :
    (Instr.healthConfig [] ⟨none, none, none, none, none, some 65536, none, none⟩).wf = false := by decide
theorem test_supply_yield_refused : (Instr.supplySet [] 0 ⟨some 65536, none, none, none, none, none⟩).wf = false := by decide
theorem test_callout_level_refused :
    (Instr.calloutConfig [] ⟨none, none, none, none, none, some 256⟩).wf = false := by decide
theorem test_wall_of_six_bytes_refused : (Instr.clockSet [] 1099511627776 none).wf = false := by decide

/-! ### Frames, byte by byte (11.9) -/

/-- ACCOUNT_READ of account 310 with tag 7, chained to a CLOCK_READ without tag; a byte clocked behind the frame is ignored. -/
theorem test_frame_two_requests :
    frameEntries [0x00, 0x0D, 0x92, 0x01, 0x07, 0x00, 0x04, 0x01, 0x02, 0x01, 0x36, 0x71, 0x00, 0x00, 0x00, 0xAA] =
      [.request (.accountRead [7] 310), .request (.clockRead [])] := by decide

/-- A signed value in two's complement: ACCOUNT_CREDIT of −5. -/
theorem test_frame_signed :
    frameEntries [0, 14, 0x15, 0, 0, 10, 1, 2, 0x01, 0x36, 2, 4, 0xFF, 0xFF, 0xFF, 0xFB] =
      [.request (.accountCredit [] 310 (-5))] := by decide

/-- An absent optional value is an item of length 0: ACCOUNT_OPEN of account 1 without pool. -/
theorem test_frame_absent_pool :
    frameEntries [0, 35, 16, 0, 0, 31, 1, 2, 0, 1, 2, 0, 3, 1, 1, 4, 4, 0, 0, 0, 100, 5, 2, 0, 10, 6, 4, 0, 0, 0, 25, 7, 4, 0, 0, 0, 50] =
      [.request (.accountOpen [] ⟨1, none, 1, 100, 10, 25, 50⟩)] := by decide

/-- A selection carries the items it selects: QUOTA_CONFIG of the colour weight alone. -/
theorem test_frame_selection :
    frameEntries [0, 7, 0x20, 0, 0, 3, 2, 1, 9] = [.request (.quotaConfig [] none (some 9) none)] := by decide

/-- A compound target, FLOOR 9. -/
theorem test_frame_target :
    frameEntries [0, 26, 0x28, 0, 0, 22, 1, 2, 0, 8, 2, 2, 0, 30, 3, 2, 0, 12, 4, 1, 1, 5, 1, 0, 6, 2, 1, 9] =
      [.request (.jobSubmit [] ⟨8, 30, 12, 1, 0, 1, 9⟩)] := by decide

/-- The six keys share one request code: DONE is the sixth. -/
theorem test_frame_key : frameEntries [0, 10, 0x31, 0, 0, 6, 1, 1, 3, 2, 1, 5] = [.request (.done [] 3)] := by decide

/-- A condition set and a list of readings. -/
theorem test_frame_report :
    frameEntries [0, 16, 0x43, 0, 0, 12, 1, 1, 3, 2, 1, 0x20, 3, 4, 0, 1, 0, 0] =
      [.request (.statusReport [] 3 32 [0, 1, 0, 0])] := by decide

theorem test_frame_order :
    frameEntries [0, 11, 0x57, 0, 0, 7, 1, 1, 1, 2, 2, 0, 6] = [.request (.orderPlaced [] 1 6)] := by decide
theorem test_frame_ack : frameEntries [0, 10, 0x62, 0, 0, 6, 1, 4, 0, 0, 0, 9] = [.request (.calloutAck [] 9)] := by decide
theorem test_frame_clock :
    frameEntries [0, 11, 0x70, 0, 0, 7, 1, 5, 0, 0, 0x0F, 0x42, 0x40] = [.request (.clockSet [] 1000000 none)] := by decide
theorem test_frame_retire : frameEntries [0, 7, 0x48, 0, 0, 3, 1, 1, 3] = [.request (.printerRetire [] 3)] := by decide

/-- A request code that is not in the table: the byte found wrong is the header, and the bytes behind it are discarded. -/
theorem test_frame_unknown_code : frameEntries [0, 4, 0x7F, 0, 0, 0] = [.marker 0x7F [] 2 3] := by decide

/-- R177: bytes clocked beyond a frame length of 0, of 511 or of 4 are ignored. -/
theorem test_frame_beyond_its_length :
    frameEntries [0, 0, 9, 9] = frameEntries [0, 0]
      ∧ (∀ frame beyond : List Byte, frame.length = 511 →
        frameEntries (1 :: 255 :: (frame ++ beyond)) = frameEntries (1 :: 255 :: frame))
      ∧ frameEntries [0, 4, 0x71, 0, 0, 0, 9] = [.request (.clockRead [])] :=
  ⟨by simp [frameEntries, beNat], fun frame beyond h => by
    simp [frameEntries, beNat, Config.frameBytes, h, List.take_of_length_le], by decide⟩

/-- A request whose body length is cut short, behind a sound one: the sound one enters, and one marker behind it (R178). -/
theorem test_frame_malformed_behind :
    (frameEntries [0, 8, 0xF1, 0, 0, 0, 0x12, 1, 7, 0]).take 1 = [.request (.clockRead [])]
      ∧ (frameEntries [0, 8, 0xF1, 0, 0, 0, 0x12, 1, 7, 0]).length = 2 := by decide

/-! ### A world to work on -/

/-- Uptime in the world, and a deadline that has just been reached and one that has not. -/
def now : Nat := 1000000
def past : Deadline := { value := now, dormant := false }
def later : Deadline := { value := now + 1, dormant := false }

def person : Account where
  state := .active
  pool := none
  colour := true
  allotment := 600
  overdraft := 10
  warnLow := 25
  warnHigh := 50
  badgeCount := 1
  balance := 100
  reserved := 20
  warned := false
  usedPeriod := 0
  today := 30
  peak := 12
  liveJobs := 0
  openVisit := none
  inFlight := 0

def department : Pool := { state := .active, allotment := 4000, members := 1, balance := 500, reserved := 0, usedPeriod := 0 }

/-- The job of the worked settlement (2.5), HELD by account 310. -/
def sheet : Job where
  owner := 310
  stage := .held
  submitted := 999000
  expiry := later
  mono := 30
  colour := 0
  size := .standard
  duplex := false
  target := .any
  reroutedFrom := none
  attempts := 0

def grantAt (printer : Nat) : Grant := { printer, number := 41, accountPart := 20, poolPart := 0 }

def machine : Printer where
  state := .inService
  present := true
  floor := 9
  sibling := none
  colourCapable := false
  duplex := true
  largeTray := false
  modelGroup := 2
  slotCount := 1
  heartbeatTimeout := 120
  autoReturn := true
  restartPermitted := true
  restartUsed := false
  live := 0
  latched := 0
  qualification := []
  heartbeat := some later
  absence := none
  restart := none
  restartCredit := none

def cartridge : Slot where
  supplyType := 6
  capacity := 24000000
  remaining := 9600000
  today := 780000
  average := 1125000
  seeded := true
  level := 40
  projected := 8
  state := .ok
  corrected := false
  sides := 6210

/-- The supply type of the worked case (6.11). -/
def toner : SupplyType where
  state := .active
  colour := .k
  modelGroup := 2
  ratedYield := 12000
  lowPercent := 15
  leadDays := 5
  safetyDays := 2
  reorderQuantity := 4
  minimumStock := 1
  onHand := 1
  reservations := []
  onOrder := 0
  overdue := none
  overdueRaised := false

def call (number printer : Nat) (kind : CauseKind) : Ticket where
  number := number
  printer := printer
  kind := kind
  state := .dispatched
  level := 0
  arisen := 990000
  opened := 990000
  deadline := some past
  holdsUnit := false

/-- Account 310 has an OPEN visit at printer 2 with job 1 in its menu; account 640 one DRAINING at printer 4 with job 2 in its
list; account 1,207 has job 3 RELEASING and job 4 PRINTING at printer 3, and job 5 HELD past its expiry. Printer 57 is the
printer of the worked case of 6.11. Account 88 is SUSPENDED, and pool 12 has no members. -/
def world : Records where
  adir :=
    { accounts :=
        [(88, { person with state := .suspended }), (310, { person with pool := some 5, liveJobs := 1, openVisit := some 2 }),
          (640, { person with liveJobs := 1, openVisit := some 4 }), (1207, { person with reserved := 40, liveJobs := 3, inFlight := 2 }),
          (2044, { person with balance := 40, reserved := 0, overdraft := 0, warnLow := 15, warnHigh := 30, badgeCount := 0 })]
      pools := [(5, department), (12, { department with members := 0 })]
      badges := [⟨77, 310⟩, ⟨78, 640⟩, ⟨79, 1207⟩, ⟨80, 88⟩] }
  qtu := { monoWeight := 2, colourWeight := 8, periodLength := 30 }
  hq :=
    { jobs :=
        [(1, sheet), (2, { sheet with owner := 640 }),
          (3, { sheet with owner := 1207, stage := .releasing (grantAt 3) }),
          (4, { sheet with owner := 1207, stage := .printing { grantAt 3 with number := 42 } 999500 }),
          (5, { sheet with owner := 1207, expiry := past })]
      lists := [(310, [1]), (640, [2]), (1207, [3, 4, 5])]
      lastJob := 5
      holdHours := 24 }
  rlu :=
    { visits :=
        [(2, .opened { account := 310, menu := [1], more := 0, cursor := 0, idle := past }),
          (4, .draining { account := 640, jobs := [2], granted := 0, dropped := 0 })]
      inFlight := [(3, [⟨3, past⟩, ⟨4, past⟩])]
      lastGrant := 42
      idleTimeout := 60
      grantWindow := 120
      completionWindow := 3600
      maxAttempts := 3 }
  ptb :=
    { printers := [(2, machine), (3, machine), (4, machine), (57, machine)]
      paperOut := 300, paperJam := 120, doorOpen := 180, fuser := 30, engine := 30, offline := 60
      restartWindow := 600, absenceDelay := 900 }
  spu := { slots := [(8, cartridge), (12, cartridge), (16, cartridge), (228, cartridge)], types := [(6, toner)], shift := 3 }
  cou :=
    { tickets := [call 7 3 .absence], backlog := [], lastTicket := 7, ack0 := 1800, ack1 := 1800, ack2 := 3600, ack3 := 3600
      workTime := 14400, alarmLevel := 2, alarm := false }
  fck := { uptime := now, offset := 0, clockSet := false, roll := none, dayIndex := 300, countdown := 2 }

/-! The world with one record written. -/

/-- The part with those records: nothing waits but the START notice. -/
def quiet (r : Records) : State := { State.reset with toRecords := r }

def base : Work := (quiet world).work

def withAccount (i : Nat) (a : Account) : Records := (base.setAccount i a).toRecords
def withPool (i : Nat) (p : Pool) : Records := (base.setPool i p).toRecords
def withJob (n : Nat) (j : Job) : Records := (base.setJob n j).toRecords
def withVisit (p : Nat) (v : Visit) : Records := (base.setVisit p v).toRecords
def withPrinter (p : Nat) (q : Printer) : Records := (base.setPrinter p q).toRecords
def withSlot (key : Nat) (c : Slot) : Records := (base.setSlot key c).toRecords
def withType (i : Nat) (t : SupplyType) : Records := (base.setType i t).toRecords
def withTickets (l : List Ticket) : Records := (base.setTickets l).toRecords
def withClock (f : Fck) : Records := { world with fck := f }
def withFlight (p : Nat) (l : List InFlight) : Records := (base.setInFlight p l).toRecords

/-- The part with one request at the head of its request queue, and it in the command queue. -/
def asked (r : Records) (c : Instr) : State :=
  { quiet r with lnk := { State.reset.lnk with requests := [.request c] }, pending := [c] }

theorem taken_asked (r : Records) (c : Instr) : Taken (asked r c) c := ⟨rfl, rfl, by change 0 < 32; decide⟩

/-- The state a command leaves. -/
def after (o : Host.Outcome State Fault Refusal) : Option State :=
  match o with
  | .next t => some t
  | _ => none

/-- The outcome and the fields of the reply that a request gets. -/
def replyTo (r : Records) (c : Instr) : Option (ReplyOutcome × List Field) :=
  (after (exec c (asked r c))).bind (fun t => t.lnk.replies.getLast?.map (fun a => (a.outcome, a.body)))

/-- The kinds and keys of the notices that stand after a request, in their order, without START. -/
def noticesOf (r : Records) (c : Instr) : Option (List (NoticeKind × Nat)) :=
  (after (exec c (asked r c))).map (fun t => (t.lnk.notices.drop 1).map noticeKey)

/-- The records after a request, and after an event. -/
def recordsAfter (r : Records) (c : Instr) : Option Records := (after (exec c (asked r c))).map (·.toRecords)
def recordsOn (r : Records) (c : Instr) : Option Records := (after (exec c (quiet r))).map (·.toRecords)

theorem not_retiring {st : ServiceState} (h : st.code ≠ 6) : ∀ accepted, st ≠ .retiring accepted :=
  fun _ e => h (by rw [e]; rfl)

/-! ### States and operands that meet the statements' hypotheses -/

/-- A part in the middle of its work meets every invariant, and its next step answers. -/
def busy : State := asked world (.peakClear [1] 1207)

theorem witness_LinkSound : LinkSound busy := by constructor <;> decide +kernel
theorem witness_TablesSound : TablesSound busy.toRecords := by constructor <;> constructor <;> decide +kernel
theorem witness_CountsBounded : CountsBounded busy.toRecords := by constructor <;> decide +kernel
theorem witness_BalancesBounded : BalancesBounded busy.toRecords := by constructor <;> decide +kernel
theorem witness_SettingsInRange : SettingsInRange busy.toRecords := by constructor <;> decide +kernel
theorem witness_ClockSound : ClockSound busy.toRecords := by constructor <;> decide +kernel

theorem witness_StepTakesFrontCommand :
    busy.pending = .peakClear [1] 1207 :: [] ∧ (∃ t, step busy = .next t) ∧ State.reset.pending = [] :=
  ⟨rfl, ⟨_, rfl⟩, rfl⟩

def fourRequests : List Instr :=
  [.peakClear [1] 1207, .clockSet [] 1099511627775 none, .statusReport [1, 2, 3, 4, 5, 6] 3 127 [0, 1, 2, 255],
    .accountCredit [] 65535 (-2147483648)]

theorem witness_FrameCarriesRequests :
    fourRequests ≠ [] ∧ fourRequests.length ≤ 4 ∧ (∀ c ∈ fourRequests, c.wf = true ∧ c.request? ≠ none)
      ∧ (writeRequests fourRequests).length ≤ 510 := by decide +kernel

/-- A reply of some earlier request. -/
def earlier : Reply := { code := 0x71, outcome := .ok, tag := [], body := [] }

theorem witness_EveryRequestAnsweredOnce :
    (Instr.peakClear [1] 1207).request? = some (0x16, [1]) ∧ Taken busy (.peakClear [1] 1207)
      ∧ busy.lnk.requests.head? ≠ some (.request (.clockRead [])) ∧ (Instr.clockRead []).request? = some (0x71, [])
      ∧ busy.lnk.requests ≠ [] ∧ 32 ≤ (List.replicate 32 earlier).length :=
  ⟨rfl, taken_asked _ _, by decide, rfl, by decide, by decide⟩

/-- The part without main power, its records retained or lost. -/
def dark (retention : Bool) : State :=
  { quiet world with lnk := { State.reset.lnk with mainPower := false, retention, ready := false, attn := false } }

theorem witness_UptimeMovesByTickAlone :
    (∃ t, exec (.resync 0) busy = .next t) ∧ (dark false).lnk.mainPower = false ∧ (dark false).lnk.retention = false
      ∧ ∃ t, exec (.mainPowerRise []) (dark false) = .next t ∧ t.fck.uptime = 0 ∧ world.fck.uptime ≠ 0 :=
  ⟨⟨_, rfl⟩, rfl, rfl, _, rfl, rfl, by decide⟩

theorem witness_PowerOffHolds :
    (dark true).lnk.mainPower = false ∧ (∀ order, Instr.clockRead [] ≠ .mainPowerRise order)
      ∧ Instr.clockRead [] ≠ .uptimeTick ∧ (dark true).lnk.ready = false ∧ (dark true).lnk.attn = false
      ∧ (dark true).lnk.alarm = false := ⟨rfl, nofun, nofun, rfl, rfl, rfl⟩

def notice (n : Nat) : Notice := { notice := { kind := .jobRemoved, key := n, body := [] }, changes := 0 }
def removal (n : Nat) : Raised := { kind := .jobRemoved, key := n, body := [u16 n] }

/-- The link with so many notices queued and so many owed, keys 0 on. -/
def crowded (queued owed : Nat) : Lnk :=
  { State.reset.lnk with
    notices := (List.range queued).map notice, owed := (List.range owed).map (fun n => notice (queued + n)) }

theorem witness_NoticePlacement :
    (∃ n ∈ (crowded 64 0).notices, noticeKey n = (.jobRemoved, 63))
      ∧ (¬(∃ n ∈ (crowded 64 2).notices, noticeKey n = (.jobRemoved, 65))
        ∧ ∃ n ∈ (crowded 64 2).owed, noticeKey n = (.jobRemoved, 65))
      ∧ (¬(∃ n ∈ (crowded 63 0).notices, noticeKey n = (.jobRemoved, 63)) ∧ (crowded 63 0).notices.length < 64
        ∧ (crowded 63 0).owed = [])
      ∧ (¬((crowded 64 1023).notices.length < 64 ∧ (crowded 64 1023).owed = []) ∧ (crowded 64 1023).owed.length < 1024
        ∧ ¬∃ n ∈ (crowded 64 1023).owed, noticeKey n = (.jobRemoved, 2000))
      ∧ (1024 ≤ (crowded 64 1024).owed.length ∧ ¬∃ n ∈ (crowded 64 1024).owed, noticeKey n = (.jobRemoved, 2000))
      ∧ (((crowded 64 9).notices ++ (crowded 64 9).owed).map noticeKey).Nodup := by decide +kernel

/-- The part with a request queue of so many entries. -/
def behind (n : Nat) : State :=
  { quiet world with lnk := { State.reset.lnk with requests := List.replicate n (.request (.clockRead [])) } }

theorem witness_WriteFrame :
    (behind 12).lnk.mainPower = true ∧ (behind 12).lnk.linkResetHeld = false ∧ (behind 12).lnk.requests.length ≤ 12
      ∧ 12 < (behind 13).lnk.requests.length ∧ ([0] : List Byte).length < 2
      ∧ beNat (([0, 0, 9] : List Byte).take 2) = 0 ∧ 510 < beNat (([1, 255] : List Byte).take 2)
      ∧ ([0, 2, 9] : List Byte).length < 2 + beNat (([0, 2, 9] : List Byte).take 2) := by decide +kernel

/-- The part with a reply waiting, and notices queued and owed. -/
def waiting : State := { quiet world with lnk := { crowded 64 3 with replies := [earlier] } }

theorem witness_Transactions :
    waiting.lnk.mainPower = true ∧ waiting.lnk.linkResetHeld = false ∧ (quiet world).lnk.replies = []
      ∧ (waiting.lnk.replies = earlier :: [] ∧ earlier.record.length ≤ 6) ∧ (crowded 0 0).notices = []
      ∧ (waiting.lnk.notices = notice 0 :: (List.range' 1 63).map notice ∧ 9 < (notice 0).record.length
        ∧ (notice 0).record.length ≤ 10) := by decide +kernel

/-- The part with LINK_RESET held. -/
def held : State := { quiet world with lnk := { State.reset.lnk with linkResetHeld := true, ready := false } }

theorem witness_LinkResets :
    held.lnk.mainPower = true ∧ held.lnk.linkResetHeld = true ∧ (quiet world).lnk.mainPower = true
      ∧ (quiet world).lnk.linkResetHeld = false := ⟨rfl, rfl, rfl, rfl⟩

/-- The part with a MALFORMED marker at the head, and so many replies. -/
def marked (replies : Nat) : State :=
  { quiet world with
    lnk := { State.reset.lnk with requests := [.marker 0x10 [7] 2 3], replies := List.replicate replies earlier } }

theorem witness_MalformedMarkerAnswered :
    (marked 31).lnk.requests = .marker 0x10 [7] 2 3 :: [] ∧ (marked 31).lnk.mainPower = true
      ∧ (marked 31).lnk.replies.length < 32 ∧ 32 ≤ (marked 32).lnk.replies.length := by decide +kernel

theorem witness_WarmStart :
    (dark true).lnk.mainPower = false ∧ (dark true).lnk.retention = true ∧ TablesSound (dark true).toRecords :=
  ⟨rfl, rfl, witness_TablesSound⟩

theorem witness_ColdStartPowerAndTime :
    (dark false).lnk.mainPower = false ∧ (dark false).lnk.retention = false ∧ (quiet world).lnk.mainPower = true
      ∧ (dark true).lnk.retention = true := ⟨rfl, rfl, rfl, rfl⟩

/-! Accounts, badges, pools and quota. -/

def newcomer : AccountOpen := ⟨1206, some 12, 1, 600, 65535, 80, 40⟩

theorem witness_AccountOpened :
    Taken (asked world (.accountOpen [] newcomer)) (.accountOpen [] newcomer)
      ∧ (newcomer.account < 4096 ∧ newcomer.colour ≤ 1 ∧ world.adir.accounts.lookup newcomer.account = none
        ∧ newcomer.pool = some 12 ∧ 12 < 64 ∧ world.adir.pools.lookup 12 = some { department with members := 0 }
        ∧ ({ newcomer with pool := none } : AccountOpen).pool = none) := ⟨taken_asked _ _, by decide⟩

/-- A change of every setting, pool 5 to none. -/
def changes : AccountSet := ⟨2044, some none, some 0, some 1000001, some 0, some 80, some 40⟩

theorem witness_AccountSettingsChanged :
    Taken (asked world (.accountSet [] changes)) (.accountSet [] changes)
      ∧ ∃ a, world.adir.accounts.lookup changes.account = some a ∧ changes.account < 4096
        ∧ (a.state = .active ∨ a.state = .suspended) ∧ (∀ v, changes.colour = some v → v ≤ 1)
        ∧ changes.pool.getD a.pool = a.pool ∧ a.inFlight = 0 := by
  refine ⟨taken_asked _ _, _, rfl, by decide, by decide, ?_, by decide, by decide⟩
  intro v h; cases h; decide

theorem witness_WarningEvaluated :
    base.adir.accounts.lookup 2044 = some { person with balance := 40, reserved := 0, overdraft := 0, warnLow := 15
                                                        warnHigh := 30, badgeCount := 0 }
      ∧ (let at_ := fun (balance : Int) => balance - (0 : Nat) + (0 : Nat)
         at_ 15 ≤ (15 : Nat) ∧ (15 : Nat) < at_ 16 ∧ (30 : Nat) ≤ at_ 30 ∧ at_ 29 < (30 : Nat)) := by decide

theorem witness_AccountSuspendedAndResumed :
    Taken (asked world (.accountSuspend [] 1207)) (.accountSuspend [] 1207)
      ∧ Taken (asked world (.accountSuspend [] 310)) (.accountSuspend [] 310)
      ∧ Taken (asked world (.accountResume [] 88)) (.accountResume [] 88)
      ∧ ((world.adir.accounts.lookup 1207).map (fun a => (a.state, a.openVisit)) = some (.active, none)
        ∧ (world.adir.accounts.lookup 310).map (fun a => (a.state, a.openVisit)) = some (.active, some 2)
        ∧ (world.rlu.visits.lookup 2).map Visit.account = some 310
        ∧ (world.adir.accounts.lookup 88).map (·.state) = some .suspended) :=
  ⟨taken_asked _ _, taken_asked _ _, taken_asked _ _, by decide⟩

theorem witness_BadgesBoundAndUnbound :
    Taken (asked world (.badgeBind [] 81 310)) (.badgeBind [] 81 310)
      ∧ Taken (asked world (.badgeUnbind [] 77 310)) (.badgeUnbind [] 77 310)
      ∧ Taken (asked world (.badgeUnbind [] 78 310)) (.badgeUnbind [] 78 310)
      ∧ ((world.adir.accounts.lookup 310).map (fun a => (a.state, a.badgeCount)) = some (.active, 1)
        ∧ (∀ b ∈ world.adir.badges, b.code ≠ 81) ∧ world.adir.badges.length < 6144 ∧ boundTo? world 77 = some 310
        ∧ boundTo? world 78 = some 640) := ⟨taken_asked _ _, taken_asked _ _, taken_asked _ _, by decide⟩

theorem witness_PeopleRead :
    Taken (asked world (.accountRead [] 310)) (.accountRead [] 310) ∧ Taken (asked world (.badgeFind [] 0)) (.badgeFind [] 0)
      ∧ Taken (asked world (.badgeFind [] 99)) (.badgeFind [] 99) ∧ Taken (asked world (.badgeFind [] 77)) (.badgeFind [] 77)
      ∧ Taken (asked world (.poolRead [] 5)) (.poolRead [] 5)
      ∧ ((world.adir.accounts.lookup 310).isSome ∧ (∀ b ∈ world.adir.badges, b.code ≠ 99) ∧ boundTo? world 77 = some 310
        ∧ world.adir.pools.lookup 5 = some department) :=
  ⟨taken_asked _ _, taken_asked _ _, taken_asked _ _, taken_asked _ _, taken_asked _ _, by decide⟩

def leaving : Pool := { department with state := .retiring }

theorem witness_PoolOpenedAndSet :
    Taken (asked world (.poolOpen [] 64 0)) (.poolOpen [] 64 0) ∧ Taken (asked world (.poolOpen [] 63 9)) (.poolOpen [] 63 9)
      ∧ Taken (asked world (.poolOpen [] 5 9)) (.poolOpen [] 5 9)
      ∧ Taken (asked (withPool 5 leaving) (.poolOpen [] 5 9)) (.poolOpen [] 5 9)
      ∧ Taken (asked world (.poolSet [] 5 9)) (.poolSet [] 5 9)
      ∧ (world.adir.pools.lookup 63 = none ∧ world.adir.pools.lookup 5 = some department
        ∧ (withPool 5 leaving).adir.pools.lookup 5 = some leaving) :=
  ⟨taken_asked _ _, taken_asked _ _, taken_asked _ _, taken_asked _ _, taken_asked _ _, by decide⟩

theorem witness_UnknownRecordsRefused :
    Taken (asked world (.accountRead [] 4096)) (.accountRead [] 4096)
      ∧ Taken (asked world (.jobList [] 4095 0)) (.jobList [] 4095 0)
      ∧ Taken (asked world (.poolRead [] 64)) (.poolRead [] 64) ∧ Taken (asked world (.poolRetire [] 63)) (.poolRetire [] 63)
      ∧ Taken (asked world (.done [] 96)) (.done [] 96) ∧ Taken (asked world (.printerReseat [] 95)) (.printerReseat [] 95)
      ∧ Taken (asked world (.supplyRead [] 32)) (.supplyRead [] 32)
      ∧ Taken (asked world (.stockAdjust [] 31 0)) (.stockAdjust [] 31 0)
      ∧ (world.adir.accounts.lookup 4095 = none ∧ world.adir.pools.lookup 63 = none ∧ world.ptb.printers.lookup 95 = none
        ∧ world.spu.types.lookup 31 = none ∧ (Instr.done [] 96).request? = some (0x31, [])) :=
  ⟨taken_asked _ _, taken_asked _ _, taken_asked _ _, taken_asked _ _, taken_asked _ _, taken_asked _ _, taken_asked _ _,
    taken_asked _ _, by decide⟩

theorem witness_CreditsAndPeak :
    Taken (asked world (.accountCredit [] 4096 1)) (.accountCredit [] 4096 1)
      ∧ Taken (asked world (.accountCredit [] 4095 1)) (.accountCredit [] 4095 1)
      ∧ Taken (asked world (.accountCredit [] 310 (-5))) (.accountCredit [] 310 (-5))
      ∧ Taken (asked world (.poolCredit [] 5 7)) (.poolCredit [] 5 7) ∧ Taken (asked world (.peakClear [] 310)) (.peakClear [] 310)
      ∧ (world.adir.accounts.lookup 4095 = none ∧ (world.adir.accounts.lookup 310).isSome
        ∧ (world.adir.pools.lookup 5).isSome) :=
  ⟨taken_asked _ _, taken_asked _ _, taken_asked _ _, taken_asked _ _, taken_asked _ _, by decide⟩

theorem witness_SettlementDivided :
    (152 ≤ 90 + 66 ∧ 20 + 0 < 28 ∧ (90 : Nat) + 66 = 156) := by decide

/-- The job of the worked settlement, 30 mono and 12 colour sides. -/
def handout : Job := { sheet with colour := 12 }

theorem witness_ReservationAsked :
    (∃ a, base.adir.accounts.lookup handout.owner = some a ∧ a.pool = some 5 ∧ a.balance - a.reserved + a.overdraft = 90
        ∧ charge base.qtu 30 12 .standard = 156 ∧ base.adir.pools.lookup 5 = some department
        ∧ ((156 - 90 : Nat) : Int) ≤ department.balance - department.reserved)
      ∧ (∃ a, base.adir.accounts.lookup ({ handout with owner := 2044 } : Job).owner = some a ∧ a.pool = none
        ∧ a.balance - a.reserved + a.overdraft = 40) := ⟨⟨_, rfl, by decide⟩, _, rfl, by decide⟩

theorem witness_SettingsChanged :
    Taken (asked world (.quotaConfig [] none (some 0) (some 63))) (.quotaConfig [] none (some 0) (some 63))
      ∧ Taken (asked world (.holdConfig [] (some 255))) (.holdConfig [] (some 255))
      ∧ (∀ f, Taken (asked world (.releaseConfig [] f)) (.releaseConfig [] f))
      ∧ (∀ f, Taken (asked world (.healthConfig [] f)) (.healthConfig [] f))
      ∧ Taken (asked world (.supplyConfig [] (some 5))) (.supplyConfig [] (some 5))
      ∧ (∀ f, Taken (asked world (.calloutConfig [] f)) (.calloutConfig [] f)) :=
  ⟨taken_asked _ _, taken_asked _ _, fun _ => taken_asked _ _, fun _ => taken_asked _ _, taken_asked _ _,
    fun _ => taken_asked _ _⟩

/-! The hold queue. -/

def submission : JobSubmit := ⟨1207, 6, 0, 1, 1, 2, 3⟩

/-- Account 1,207 owns so many jobs, the first of them RELEASING where asked; and a table of so many jobs. -/
def loaded (own : Nat) (firstFlies : Bool) (total : Nat) : Records :=
  { withAccount 1207 { person with liveJobs := own } with
    hq := { world.hq with
      jobs := (List.range total).map (fun k =>
        (k + 1, { sheet with
          owner := 1207, stage := if firstFlies ∧ k = 0 then .releasing (grantAt 3) else .held }))
      lists := [(1207, (List.range own).map (· + 1))] } }

theorem witness_JobSubmitted :
    (∀ r : Records, Taken (asked r (.jobSubmit [] submission)) (.jobSubmit [] submission))
      ∧ (submission.owner < 4096 ∧ submission.duplex ≤ 1 ∧ sizeClass? submission.size = some .standard
        ∧ target? submission.targetKind submission.targetNumber = some (.printer 3) ∧ 0 < submission.mono
        ∧ (world.adir.accounts.lookup 1207).map (·.state) = some .active
        ∧ (world.ptb.printers.lookup 3).map (·.state) = some .inService)
      ∧ ((world.hq.lists.list 1207).length < 32 ∧ world.hq.jobs.length < 2048)
      ∧ ((loaded 31 false 2048).hq.lists.list 1207).length < 32 ∧ 2048 ≤ (loaded 31 false 2048).hq.jobs.length
      ∧ 32 ≤ ((loaded 32 true 1).hq.lists.list 1207).length
      ∧ (∀ n ∈ (loaded 32 true 1).hq.lists.list 1207, isHeld (loaded 32 true 1) n = false)
      ∧ (32 ≤ ((loaded 32 true 32).hq.lists.list 1207).length
        ∧ (loaded 32 true 32).hq.lists.list 1207 = [1] ++ 2 :: (List.range' 3 30)
        ∧ isHeld (loaded 32 true 32) 1 = false ∧ isHeld (loaded 32 true 32) 2 = true) :=
  ⟨fun _ => taken_asked _ _, by decide, by decide, by decide +kernel, by decide +kernel, by decide +kernel, by decide +kernel,
    by decide +kernel⟩

theorem witness_JobCancelled :
    (∀ n i, Taken (asked world (.jobCancel [] n i)) (.jobCancel [] n i))
      ∧ ((world.hq.jobs.lookup 1).map (fun j => (j.owner, j.stage)) = some (310, .held)
        ∧ (world.hq.jobs.lookup 3).map (fun j => (j.owner, j.stage)) = some (1207, .releasing (grantAt 3))
        ∧ (world.hq.jobs.lookup 4).map (fun j => (j.owner, j.stage.code)) = some (1207, 2) ∧ 1 ≤ 1 ∧ 65535 ≤ 65535
        ∧ (world.adir.accounts.lookup 1207).map (·.openVisit) = some none) := ⟨fun _ _ => taken_asked _ _, by decide⟩

theorem witness_JobsRead :
    (∀ n, Taken (asked world (.jobRead [] n)) (.jobRead [] n)) ∧ (∀ i k, Taken (asked world (.jobList [] i k)) (.jobList [] i k))
      ∧ (world.hq.jobs.lookup 6 = none ∧ (world.hq.jobs.lookup 1).map (·.stage) = some .held
        ∧ (world.hq.jobs.lookup 3).map (·.stage) = some (.releasing (grantAt 3))
        ∧ (world.hq.jobs.lookup 4).map (·.stage.code) = some 2 ∧ (world.adir.accounts.lookup 310).isSome
        ∧ world.adir.accounts.lookup 4095 = none
        ∧ [3, 4, 5] = ((world.hq.lists.list 1207).drop 0).take 4) :=
  ⟨fun _ => taken_asked _ _, fun _ _ => taken_asked _ _, by decide⟩

theorem past_fallen : fallen now past := ⟨rfl, Nat.le_refl _⟩
theorem later_waits : ¬fallen now later := fun h => absurd h.2 (by decide)

theorem witness_ExpiryAndIdleDeadlines :
    (quiet world).lnk.mainPower = true
      ∧ (world.hq.jobs.lookup 5).map (fun j => (j.stage, j.expiry)) = some (.held, past) ∧ fallen now past
      ∧ (world.hq.jobs.lookup 1).map (·.expiry) = some later ∧ ¬fallen now later
      ∧ (world.hq.jobs.lookup 4).map (·.stage.code) = some 2
      ∧ world.rlu.visits.lookup 2 = some (.opened ⟨310, [1], 0, 0, past⟩) ∧ (world.adir.accounts.lookup 310).isSome :=
  ⟨rfl, by decide, past_fallen, by decide, later_waits, by decide, by decide, by decide⟩

/-! Release terminals and grants. -/

def opened (menu : List Nat) (cursor : Nat) : OpenVisit := { account := 310, menu, more := 0, cursor, idle := later }
def draining57 : DrainVisit := { account := 640, jobs := [2], granted := 0, dropped := 0 }

theorem witness_BadgePresented :
    (∀ (r : Records) p code, Taken (asked r (.badgePresented [] p code)) (.badgePresented [] p code))
      ∧ (boundTo? world 80 = some 88 ∧ (world.adir.accounts.lookup 88).map (·.state) = some .suspended)
      ∧ (boundTo? world 77 = some 310 ∧ (world.adir.accounts.lookup 310).map (·.state) = some .active
        ∧ world.ptb.printers.lookup 57 = some machine)
      ∧ ((withPrinter 57 { machine with state := .qualifying }).ptb.printers.lookup 57).map (·.state) = some .qualifying
      ∧ draining world 4 = true
      ∧ (draining world 57 = false ∧ (world.adir.accounts.lookup 310).bind (·.openVisit) = some 2 ∧ draining world 2 = false)
      ∧ eligibleJobs world 57 310 = [1] ∧ eligibleJobs (withSlot 228 { cartridge with state := .empty }) 57 310 = [] :=
  ⟨fun _ _ _ => taken_asked _ _, by decide, by decide, by decide, by decide, by decide, by decide, by decide⟩

theorem witness_CursorMoved :
    Taken (asked (withVisit 2 (.opened (opened [1, 2] 0))) (.next [] 2)) (.next [] 2)
      ∧ Taken (asked (withVisit 2 (.opened (opened [1, 2] 1))) (.next [] 2)) (.next [] 2)
      ∧ Taken (asked world (.next [] 3)) (.next [] 3) ∧ Taken (asked world (.next [] 4)) (.next [] 4)
      ∧ Taken (asked world (.previous [] 2)) (.previous [] 2)
      ∧ Taken (asked (withVisit 2 (.opened (opened [1, 2] 1))) (.previous [] 2)) (.previous [] 2)
      ∧ (world.ptb.printers.lookup 2 = some machine
        ∧ (withVisit 2 (.opened (opened [1, 2] 1))).rlu.visits.lookup 2 = some (.opened (opened [1, 2] 1))
        ∧ world.rlu.visits.lookup 3 = none ∧ world.rlu.visits.lookup 4 = some (.draining draining57)
        ∧ (opened [1, 2] 0).cursor + 1 < (opened [1, 2] 0).menu.length
        ∧ (opened [1, 2] 1).menu.length ≤ (opened [1, 2] 1).cursor + 1) :=
  ⟨taken_asked _ _, taken_asked _ _, taken_asked _ _, taken_asked _ _, taken_asked _ _, taken_asked _ _, by decide⟩

/-- The visit of account 310 at printer 3, which has so many jobs in flight. -/
def atThree (flying : Nat) (j : Job) : Records :=
  let w := ((base.setVisit 3 (.opened (opened [1] 0))).setJob 1 j).setInFlight 3
    ((List.range flying).map (fun n => ⟨n + 3, later⟩))
  w.toRecords

theorem witness_Selected :
    (∀ r : Records, Taken (asked r (.select [] 3)) (.select [] 3))
      ∧ ((atThree 3 sheet).ptb.printers.lookup 3 = some machine
        ∧ (atThree 3 sheet).rlu.visits.lookup 3 = some (.opened (opened [1] 0)) ∧ (opened [1] 0).menu[(opened [1] 0).cursor]? = some 1
        ∧ (atThree 3 sheet).hq.jobs.lookup 1 = some sheet)
      ∧ failure? (atThree 3 handout) 3 handout = some .capability
      ∧ failure? (withPrinter 3 { machine with state := .absent }) 3 sheet = none
      ∧ (failure? (atThree 4 sheet) 3 sheet = none ∧ 4 ≤ (inFlightList (atThree 4 sheet) 3).length)
      ∧ ((inFlightList (atThree 3 sheet) 3).length < 4 ∧ askReservation (atThree 3 sheet) sheet = .parts 60 0
        ∧ ∀ e ∈ inFlightList (atThree 3 sheet) 3, e.job ≠ 1)
      ∧ askReservation (atThree 3 { sheet with mono := 1000 }) { sheet with mono := 1000 } = .short 2000 1410 :=
  ⟨fun _ => taken_asked _ _, by decide, by decide, by decide, by decide, by decide, by decide⟩

theorem witness_SelectAllDeleteDone :
    (∀ (r : Records) p, Taken (asked r (.selectAll [] p)) (.selectAll [] p) ∧ Taken (asked r (.delete [] p)) (.delete [] p)
        ∧ Taken (asked r (.done [] p)) (.done [] p))
      ∧ (world.ptb.printers.lookup 2 = some machine ∧ world.rlu.visits.lookup 2 = some (.opened ⟨310, [1], 0, 0, past⟩)
        ∧ (eligibleJobs world 2 310).take 32 = [1])
      ∧ ((eligibleJobs (withSlot 8 { cartridge with state := .empty }) 2 310).take 32 = []
        ∧ (withVisit 2 (.opened (opened [] 0))).rlu.visits.lookup 2 = some (.opened (opened [] 0))
        ∧ (opened [] 0).menu = [])
      ∧ ((withPrinter 2 { machine with state := .qualifying }).ptb.printers.lookup 2).map (·.state) = some .qualifying
      ∧ ((opened [1] 0).menu[0]? = some 1 ∧ world.hq.jobs.lookup 1 = some sheet ∧ sheet.owner = 310 ∧ sheet.stage = .held)
      ∧ world.rlu.visits.lookup 4 = some (.draining draining57) :=
  ⟨fun _ _ => ⟨taken_asked _ _, taken_asked _ _, taken_asked _ _⟩, by decide, by decide, by decide, by decide, by decide⟩

theorem witness_DrainGranted :
    ((quiet world).lnk.mainPower = true ∧ world.rlu.visits.lookup 4 = some (.draining draining57) ∧ draining57.jobs = 2 :: []
        ∧ world.ptb.printers.lookup 4 = some machine)
      ∧ ((crowded 64 0).notices.length = 64 ∧ (crowded 64 1).owed ≠ [] ∧ (crowded 63 0).notices.length < 64
        ∧ (crowded 63 0).owed = [])
      ∧ (((withPrinter 4 { machine with state := .qualifying }).ptb.printers.lookup 4).map (·.state) = some .qualifying
        ∧ 4 ≤ (inFlightList (withFlight 4 [⟨6, later⟩, ⟨7, later⟩, ⟨8, later⟩, ⟨9, later⟩]) 4).length
        ∧ (inFlightList world 4).length < 4)
      ∧ (withVisit 4 (.draining { draining57 with jobs := [6] })).hq.jobs.lookup 6 = none
      ∧ (world.hq.jobs.lookup 2 = some { sheet with owner := 640 } ∧ failure? world 4 { sheet with owner := 640 } = none
        ∧ askReservation world { sheet with owner := 640 } = .parts 60 0)
      ∧ (failure? world 4 { handout with owner := 640 } ≠ none
        ∧ askReservation world { sheet with owner := 640, mono := 46 } = .short 92 2) := by decide +kernel

theorem witness_SpoolAccepted :
    (∀ n g, Taken (asked world (.spoolAccepted [] n g)) (.spoolAccepted [] n g))
      ∧ ((world.hq.jobs.lookup 1).map (·.stage) = some .held
        ∧ (world.hq.jobs.lookup 3).map (·.stage) = some (.releasing (grantAt 3)) ∧ (grantAt 3).number ≠ 40
        ∧ (grantAt 3).number = 41
        ∧ (world.hq.jobs.lookup 4).map (·.stage) = some (.printing { grantAt 3 with number := 42 } 999500)) :=
  ⟨fun _ _ => taken_asked _ _, by decide⟩

theorem witness_ReleaseFailed :
    Taken (asked world (.spoolFailed [] 3 41)) (.spoolFailed [] 3 41)
      ∧ (world.hq.jobs.lookup 3 = some { sheet with owner := 1207, stage := .releasing (grantAt 3) }
        ∧ (quiet world).lnk.mainPower = true ∧ window? world 3 3 = some past)
      ∧ (world.rlu.maxAttempts ≤ 2 + 1 ∧ 1 + 1 < world.rlu.maxAttempts)
      ∧ ownerRetiring (withAccount 1207 { person with state := .retiring 999000, inFlight := 2 }) 1207 = true
      ∧ (ownerRetiring world 1207 = false ∧ fallen now past ∧ ¬fallen now later) :=
  ⟨taken_asked _ _, by decide, by decide, by decide, by decide, past_fallen, later_waits⟩

/-- The report of the worked case (6.11) for job 4. -/
def pages : PagesDone := ⟨4, 42, 200, 0, 130000, 0, 0, 0⟩

theorem witness_Settled :
    Taken (asked world (.pagesDone [] pages)) (.pagesDone [] pages)
      ∧ (world.hq.jobs.lookup 4 =
          some { sheet with owner := 1207, stage := .printing { grantAt 3 with number := 42 } 999500 }
        ∧ window? world 3 4 = some past ∧ (quiet world).lnk.mainPower = true
        ∧ (world.adir.accounts.lookup 1207).map (·.pool) = some none)
      ∧ ((world.hq.jobs.lookup 3).map (·.stage) = some (.releasing (grantAt 3))
        ∧ (world.adir.accounts.lookup 310).map (·.pool) = some (some 5) ∧ world.adir.pools.lookup 5 = some department)
      ∧ window? (withFlight 3 [⟨4, later⟩]) 3 4 = some later ∧ fallen now past ∧ ¬fallen now later :=
  ⟨taken_asked _ _, by decide, by decide, by decide, past_fallen, later_waits⟩

theorem witness_TerminalRead :
    (∀ p, Taken (asked world (.visitRead [] p)) (.visitRead [] p) ∧ Taken (asked world (.printerRead [] p)) (.printerRead [] p))
      ∧ (world.ptb.printers.lookup 95 = none ∧ world.ptb.printers.lookup 3 = some machine
        ∧ [(⟨3, past⟩ : InFlight), ⟨4, past⟩] = inFlightList world 3
        ∧ (world.hq.jobs.lookup 3).map (·.stage) = some (.releasing (grantAt 3))
        ∧ (world.hq.jobs.lookup 4).map (·.stage) = some (.printing { grantAt 3 with number := 42 } 999500)
        ∧ world.rlu.visits.lookup 3 = none ∧ inFlightList world 2 = [] ∧ inFlightList world 4 = []
        ∧ world.rlu.visits.lookup 2 = some (.opened ⟨310, [1], 0, 0, past⟩)
        ∧ world.rlu.visits.lookup 4 = some (.draining draining57)) :=
  ⟨fun _ => ⟨taken_asked _ _, taken_asked _ _⟩, by decide⟩

/-! Printers. -/

/-- Printer 41 of the worked sequence (5.14), its sibling 57. -/
def arrival : PrinterAdd := ⟨41, 20, some 57, 1, 1, 0, 3, 4, 120, 1, 1⟩

/-- Every setting of printer 3. -/
def refit : PrinterSet := ⟨3, some 127, some (some 57), some 0, some 1, some 1, some 2, some 1, some 29, some 0, some 0⟩

theorem witness_PrinterAddedAndSet :
    Taken (asked world (.printerAdd [] arrival)) (.printerAdd [] arrival)
      ∧ (∀ f, Taken (asked world (.printerSet [] f)) (.printerSet [] f))
      ∧ (world.ptb.printers.lookup 41 = none ∧ arrival.printer < 96 ∧ arrival.colour ≤ 1 ∧ arrival.duplex ≤ 1
        ∧ arrival.largeTray ≤ 1 ∧ arrival.autoReturn ≤ 1 ∧ arrival.restartPermitted ≤ 1 ∧ arrival.floor < 128
        ∧ arrival.modelGroup < 16 ∧ arrival.slotCount = 4)
      ∧ (world.ptb.printers.lookup 57 = some machine ∧ ∀ accepted, machine.state ≠ .retiring accepted)
      ∧ ((world.ptb.printers.lookup 3 = some machine ∧ refit.printer = 3)
        ∧ (∀ b ∈ refit.colour.toList ++ refit.duplex.toList ++ refit.largeTray.toList ++ refit.autoReturn.toList
            ++ refit.restartPermitted.toList, b ≤ 1)
        ∧ (machine.colourCapable = true → machine.slotCount = 4))
      ∧ (world.spu.slots.lookup (slotKey 3 .k) ≠ none ∧ ({ refit with modelGroup := some 3 } : PrinterSet).modelGroup ≠ some 2
        ∧ world.spu.slots.lookup (slotKey 3 .c) = none ∧ world.spu.slots.lookup (slotKey 3 .m) = none
        ∧ world.spu.slots.lookup (slotKey 3 .y) = none) :=
  ⟨taken_asked _ _, fun _ => taken_asked _ _, by decide, ⟨by decide, not_retiring (by decide)⟩, by decide, by decide⟩

theorem witness_StatusReported :
    (∀ (q : Printer) conditions, Taken (asked (withPrinter 3 q) (.statusReport [] 3 conditions [0]))
        (.statusReport [] 3 conditions [0]))
      ∧ (∀ q : Printer, (withPrinter 3 q).ptb.printers.lookup 3 = some q)
      ∧ ((examined? 1 [0]).isSome ∧ clean (BitVec.ofNat 7 1) = true ∧ clean (BitVec.ofNat 7 127) = false)
      ∧ (OutCause.restartFailed ≠ .byRequest ∧ machine.autoReturn = true)
      ∧ (Condition.fuser, later) ∈ qualify now world.ptb [(.fuser, later)] (BitVec.ofNat 7 16) := by
  refine ⟨fun _ _ => taken_asked _ _, fun _ => rfl, by decide, by decide, by decide⟩

theorem witness_ConditionsCleared :
    Taken (asked world (.conditionsClear [] 96 0)) (.conditionsClear [] 96 0)
      ∧ Taken (asked world (.conditionsClear [] 3 128)) (.conditionsClear [] 3 128)
      ∧ Taken (asked world (.conditionsClear [] 95 127)) (.conditionsClear [] 95 127)
      ∧ Taken (asked world (.conditionsClear [] 3 127)) (.conditionsClear [] 3 127)
      ∧ (world.ptb.printers.lookup 95 = none ∧ world.ptb.printers.lookup 3 = some machine) :=
  ⟨taken_asked _ _, taken_asked _ _, taken_asked _ _, taken_asked _ _, by decide⟩

theorem witness_WithdrawnAndReturned :
    (∀ q : Printer, Taken (asked (withPrinter 3 q) (.serviceWithdraw [] 3)) (.serviceWithdraw [] 3)
        ∧ Taken (asked (withPrinter 3 q) (.serviceReturn [] 3)) (.serviceReturn [] 3)
        ∧ (withPrinter 3 q).ptb.printers.lookup 3 = some q)
      ∧ ({ machine with state := .outOfService .byRequest, present := false } : Printer).state = .outOfService .byRequest
      ∧ clean machine.live = true ∧ clean (BitVec.ofNat 7 4) = false
      ∧ ({ machine with state := .retiring 5 } : Printer).state = .retiring 5 :=
  ⟨fun _ => ⟨taken_asked _ _, taken_asked _ _, rfl⟩, rfl, by decide, by decide, rfl⟩

/-- A printer with a deadline of each kind, all reached at once. -/
def tired : Printer :=
  { machine with
    state := .qualifying, qualification := [(.fuser, past), (.paperJam, past)], heartbeat := some past, absence := some past
    restart := some past, restartCredit := some past }

theorem witness_PrinterDeadlines :
    (quiet world).lnk.mainPower = true ∧ (∀ q : Printer, (withPrinter 3 q).ptb.printers.lookup 3 = some q)
      ∧ (fallen now past ∧ ∀ e ∈ tired.deadlines, fallen now e → past.value ≤ e.value) ∧ ¬fallen now later
      ∧ (qualificationOf? tired.qualification .fuser = some past ∧ qualificationOf? tired.qualification .paperJam = some past
        ∧ restartable .fuser = true ∧ restartable .paperJam = false ∧ tired.restartPermitted = true
        ∧ tired.restartUsed = false) := by
  refine ⟨rfl, fun _ => rfl, ⟨past_fallen, ?_⟩, later_waits, by decide⟩
  intro e he _
  exact (by decide : ∀ e ∈ tired.deadlines, past.value ≤ e.value) e he

/-! Cartridges and stock. -/

def settings : SupplySettings := ⟨some 999, none, some 61, some 31, none, some 99⟩

theorem witness_SupplyDefinedAndSet :
    Taken (asked world (.supplyDefine [] 31 3 15 settings)) (.supplyDefine [] 31 3 15 settings)
      ∧ Taken (asked world (.supplySet [] 6 settings)) (.supplySet [] 6 settings)
      ∧ (world.spu.types.lookup 31 = none ∧ slotLetter? 3 = some .y ∧ world.spu.types.lookup 6 = some toner
        ∧ toner.state = .active) ∧ TablesSound base.toRecords :=
  ⟨taken_asked _ _, taken_asked _ _, by decide, witness_TablesSound⟩

theorem witness_SupplyRead :
    (∀ p l, Taken (asked world (.cartridgeRead [] p l)) (.cartridgeRead [] p l))
      ∧ Taken (asked world (.supplyRead [] 6)) (.supplyRead [] 6)
      ∧ Taken (asked { world with spu := { world.spu with slots := [] } } (.cartridgeRead [] 3 0)) (.cartridgeRead [] 3 0)
      ∧ (slotLetter? 1 = some .c ∧ slotLetter? 0 = some .k ∧ world.ptb.printers.lookup 3 = some machine
        ∧ machine.slotCount ≠ 4 ∧ world.spu.slots.lookup (slotKey 3 .k) = some cartridge
        ∧ world.spu.types.lookup cartridge.supplyType = some toner) :=
  ⟨fun _ _ => taken_asked _ _, taken_asked _ _, taken_asked _ _, by decide⟩

/-- The type in the middle of the worked week (7.9): a unit reserved for printer 57, and an order that runs. -/
def ordered (deadline : Option Deadline) (onOrder : Nat) : SupplyType :=
  { toner with reservations := [228], onOrder, overdue := deadline }

theorem witness_StockMoved :
    (∀ (r : Records) n, Taken (asked r (.orderPlaced [] 6 n)) (.orderPlaced [] 6 n)
        ∧ Taken (asked r (.deliveryReceived [] 6 n)) (.deliveryReceived [] 6 n)
        ∧ Taken (asked r (.stockAdjust [] 6 n)) (.stockAdjust [] 6 n))
      ∧ (∀ t, (withType 6 t).spu.types.lookup 6 = some t) ∧ (ordered (some past) 4).state = .active
      ∧ (quiet world).lnk.mainPower = true ∧ (ordered (some past) 4).overdue = some past
      ∧ 0 < (ordered (some past) 4).onOrder ∧ (ordered (some past) 0).onOrder = 0
      ∧ (ordered (some later) 4).overdue = some later ∧ fallen now past ∧ ¬fallen now later :=
  ⟨fun _ _ => ⟨taken_asked _ _, taken_asked _ _, taken_asked _ _⟩, fun _ => rfl, rfl, rfl, rfl, by decide, rfl, rfl, past_fallen,
    later_waits⟩

def supplyCall : Ticket := { call 9 57 (.supply .k) with holdsUnit := true }

theorem witness_CartridgeInstalled :
    (∀ (r : Records) l k, Taken (asked r (.cartridgeInstall [] 57 l k)) (.cartridgeInstall [] 57 l k))
      ∧ (world.ptb.printers.lookup 57 = some machine ∧ slotLetter? 0 = some .k ∧ world.spu.types.lookup 6 = some toner
        ∧ toner.state = .active ∧ toner.colour = .k ∧ toner.modelGroup = machine.modelGroup)
      ∧ (∀ accepted, machine.state ≠ .retiring accepted)
      ∧ ({ toner with modelGroup := 3 } : SupplyType).modelGroup ≠ machine.modelGroup
      ∧ ticketOfSlot? world (slotKey 57 .k) = none
      ∧ (ticketOfSlot? (withTickets [supplyCall]) (slotKey 57 .k) = some supplyCall ∧ supplyCall.holdsUnit = true
        ∧ fittedType? (withTickets [supplyCall]) (slotKey 57 .k) = some 6)
      ∧ fittedType? (withSlot (slotKey 57 .k) { cartridge with supplyType := 7 }) (slotKey 57 .k) ≠ some 6 :=
  ⟨fun _ _ _ => taken_asked _ _, by decide, not_retiring (by decide), by decide, by decide, by decide, by decide⟩

theorem witness_TonerConsumed :
    base.spu.slots.lookup (slotKey 57 .c) = none ∧ base.spu.slots.lookup (slotKey 57 .k) = some cartridge
      ∧ base.spu.types.lookup cartridge.supplyType = some toner
      ∧ ((cartridge.consume 520000 200).remaining * 100 / 24000000 = 37 ∧ (cartridge.consume 9600000 0).remaining = 0
        ∧ (cartridge.consume 6000000 0).level = 15) := by decide +kernel

/-! Callouts and the clock. -/

theorem witness_CalloutAndClockRead :
    (∀ n, Taken (asked world (.calloutRead [] n)) (.calloutRead [] n))
      ∧ (∀ k n, Taken (asked world (.calloutList [] k n)) (.calloutList [] k n))
      ∧ Taken (asked world (.clockRead [])) (.clockRead [])
      ∧ ((∀ t ∈ world.cou.tickets, t.number ≠ 8) ∧ world.cou.tickets = [] ++ call 7 3 .absence :: []) :=
  ⟨fun _ => taken_asked _ _, fun _ _ => taken_asked _ _, taken_asked _ _, by decide⟩

theorem witness_CalloutsWorked :
    (∀ (r : Records) n, Taken (asked r (.calloutAck [] n)) (.calloutAck [] n)
        ∧ Taken (asked r (.calloutClose [] n)) (.calloutClose [] n))
      ∧ (∀ t : Ticket, t.number = 9 → ticket? (withTickets [t]) 9 = some t)
      ∧ ((call 9 3 .absence).state = .dispatched ∧ (call 9 3 .absence).deadline = some past ∧ supplyCall.number = 9
        ∧ ({ call 9 3 .restart with state := .acknowledged, deadline := some later } : Ticket).state = .acknowledged)
      ∧ (quiet world).lnk.mainPower = true ∧ fallen now past ∧ ¬fallen now later := by
  refine ⟨fun _ _ => ⟨taken_asked _ _, taken_asked _ _⟩, ?_, by decide, rfl, past_fallen, later_waits⟩
  intro t h
  show List.find? _ [t] = _
  simp [h]

/-- The clock of the worked sequence (10.5) at uptime 5,000,000, and the same at its roll deadline. -/
def clock (uptime : Nat) : Fck :=
  { uptime, offset := 1723079200, clockSet := true, roll := some { value := 5007200, dormant := false }, dayIndex := 300
    countdown := 2 }

theorem witness_ClockSetAndRolled :
    (∀ (r : Records) wall c, Taken (asked r (.clockSet [] wall c)) (.clockSet [] wall c))
      ∧ (1099511627775 < 1099511627776 ∧ world.fck.clockSet = false)
      ∧ ((withClock (clock 5000000)).fck.clockSet = true ∧ (clock 5000000).wall = 1728079200
        ∧ (clock 5000000).wall + 172800 < 1728079200 + 172801 ∧ 1728079200 - 1 < (clock 5000000).wall
        ∧ 1728079200 + 172800 ≤ (clock 5000000).wall + 172800)
      ∧ ((clock 5000000).roll = some ⟨5007200, false⟩ ∧ ¬fallen 5000000 ⟨5007200, false⟩)
      ∧ fallen 5007200 ⟨5007200, false⟩ ∧ (quiet (withClock (clock 5007200))).lnk.mainPower = true :=
  ⟨fun _ _ _ => taken_asked _ _, by decide, by decide, ⟨by decide, fun h => absurd h.2 (by decide)⟩, ⟨rfl, by decide⟩, rfl⟩

theorem witness_DayRolled :
    TablesSound base.toRecords ∧ (¬base.fck.countdown ≤ 1)
      ∧ (State.work (quiet (withClock { clock 1 with countdown := 1 }))).fck.countdown ≤ 1
      ∧ (base.adir.accounts.lookup 310).isSome ∧ base.adir.pools.lookup 5 = some department
      ∧ base.spu.slots.lookup 228 = some cartridge ∧ base.spu.types.lookup cartridge.supplyType = some toner
      ∧ cartridge.seeded = true ∧ ({ cartridge with seeded := false } : Slot).seeded = false :=
  ⟨witness_TablesSound, by decide, by decide, by decide, by decide, by decide, by decide, rfl, rfl⟩

/-! Retirement and reseating. -/

theorem witness_RecordsRetired :
    (∀ (r : Records) i, Taken (asked r (.accountRetire [] i)) (.accountRetire [] i)
        ∧ Taken (asked r (.poolRetire [] i)) (.poolRetire [] i) ∧ Taken (asked r (.supplyRetire [] i)) (.supplyRetire [] i))
      ∧ ((world.adir.accounts.lookup 310).map (·.state) = some .active
        ∧ (world.adir.accounts.lookup 88).map (·.state) = some .suspended)
      ∧ (∀ a : Account, (withAccount 1207 a).adir.accounts.lookup 1207 = some a)
      ∧ (world.adir.pools.lookup 12 = some { department with members := 0 } ∧ world.adir.pools.lookup 5 = some department)
      ∧ (world.spu.types.lookup 6 = some toner ∧ (∃ e ∈ world.spu.slots, e.2.supplyType = 6))
      ∧ (withType 7 toner).spu.types.lookup 7 = some toner ∧ (∀ e ∈ (withType 7 toner).spu.slots, e.2.supplyType ≠ 7)
      ∧ toner.reservations = [] ∧ toner.onOrder = 0 :=
  ⟨fun _ _ => ⟨taken_asked _ _, taken_asked _ _, taken_asked _ _⟩, by decide, fun _ => rfl, by decide, by decide, by decide,
    by decide, rfl, rfl⟩

theorem witness_PrinterRetiredAndReseated :
    Taken (asked world (.printerRetire [] 3)) (.printerRetire [] 3) ∧ Taken (asked world (.printerReseat [] 3)) (.printerReseat [] 3)
      ∧ world.ptb.printers.lookup 3 = some machine ∧ (∀ accepted, machine.state ≠ .retiring accepted)
      ∧ (∀ q : Printer, (withPrinter 3 q).ptb.printers.lookup 3 = some q) ∧ inFlightList world 3 ≠ []
      ∧ inFlightList world 57 = [] :=
  ⟨taken_asked _ _, taken_asked _ _, by decide, not_retiring (by decide), fun _ => rfl, by decide, by decide⟩

/-! ### The statements' further clauses: the operations the commands share, and the refusals -/

/-- Printer 3 is silent and has its ticket, and slot K of printer 57 is EMPTY and has one that holds the unit on the shelf. -/
def stood : Records :=
  { ((base.setPrinter 3 { machine with state := .absent, present := false, heartbeat := none }).setSlot 228
      { cartridge with state := .empty }).setType 6 (ordered none 0) |>.toRecords with
    cou := { world.cou with tickets := [call 7 3 .absence, supplyCall] } }

theorem witness_CalloutsSound : CalloutsSound stood where
  numbers := by decide
  keys := by decide
  standing := by
    have h : causes stood = [(3, .absence), (57, .supply .k)] := rfl
    simp only [h, List.mem_cons, List.not_mem_nil, or_false]
    rintro c (rfl | rfl)
    · exact ⟨_, rfl, rfl, rfl, nofun⟩
    · exact ⟨_, rfl, rfl⟩
  presence := by
    have h : ∀ e ∈ stood.ptb.printers, e.2 = machine ∨ e.2 = { machine with state := .absent, present := false, heartbeat := none } := by
      decide
    intro e he
    rcases h e he with h | h <;> rw [h] <;> constructor <;> simp [machine]

theorem only_slot {i : Nat} {ty : SupplyType} (h : stood.spu.types.lookup i = some ty) : i = 6 ∧ ty = ordered none 0 := by
  simpa [stood] using (Table.mem_of_lookup h : (i, ty) ∈ [(6, ordered none 0)])

theorem witness_StockSound : StockSound stood where
  held := by
    have h : stood.cou.tickets = [call 7 3 .absence, supplyCall] := rfl
    simp only [h, List.mem_cons, List.not_mem_nil, or_false]
    rintro t (rfl | rfl) hu
    · cases hu
    · exact ⟨228, 6, ordered none 0, by decide, by decide, by decide, by decide⟩
  listed := by
    intro i ty h key hk
    obtain ⟨rfl, rfl⟩ := only_slot h
    obtain rfl : key = 228 := by simpa [ordered] using hk
    exact ⟨by decide, supplyCall, by decide, by decide, rfl⟩
  once := by intro i ty h; obtain ⟨rfl, rfl⟩ := only_slot h; decide
  shelf := by intro i ty h; obtain ⟨rfl, rfl⟩ := only_slot h; decide
  waiting := by decide

/-- A request before the malformed one, and each thing found wrong: no tag length, a tag length of 7, a tag cut short, a code that is
not in the table, a body cut short, a chained request with none behind it, one behind an unchained one, a missing item. -/
theorem witness_WriteFrame_malformed :
    ((Instr.clockRead []).wf = true ∧ (Instr.clockRead []).request? ≠ none)
      ∧ (6 < (7 : Byte).toNat ∧ ([1, 2] : List Byte).length < (3 : Byte).toNat) ∧ requestFields 0x7F = none
      ∧ (([0] : List Byte).length < 2 ∧ ([0, 2, 9] : List Byte).length < 2 + beNat (([0, 2, 9] : List Byte).take 2))
      ∧ (128 ≤ (0x92 : Byte).toNat ∧ (0x12 : Byte).toNat < 128 ∧ (0x92 : Byte).toNat % 128 = 0x12)
      ∧ ∃ rules, requestFields 0x12 = some rules ∧
          ∀ offset items, readItems rules ([] : List Byte).length offset [] [] = .ok items → allRequired rules items = false := by
  refine ⟨by decide, by decide, by decide, by decide, by decide, _, rfl, ?_⟩
  intro offset items h
  cases h
  rfl

theorem witness_Transactions_bytes :
    (0x00 : Byte) ∉ [0x31, 0x52, 0x4E, 0x53, 0x4D, 0x7E] ∧ (0xFF : Byte) ∉ [0x31, 0x52, 0x4E, 0x53, 0x4D, 0x7E]
      ∧ (quiet world).lnk.mainPower = true := by decide

/-- Job 3 RELEASING past its expiry; and with a retiring owner. -/
def darkWith (r : Records) : State := { dark true with toRecords := r }
def lapsed : Records := withJob 3 { sheet with owner := 1207, expiry := past, stage := .releasing (grantAt 3) }
def forsaken : Records := withAccount 1207 { person with state := .retiring 999000, reserved := 40, liveJobs := 3, inFlight := 2 }

theorem witness_WarmStart_jobs :
    TablesSound (darkWith lapsed).toRecords ∧ TablesSound (darkWith forsaken).toRecords
      ∧ (lapsed.hq.jobs.lookup 3 = some { sheet with owner := 1207, expiry := past, stage := .releasing (grantAt 3) }
        ∧ fallen lapsed.fck.uptime past)
      ∧ (forsaken.hq.jobs.lookup 3 = some { sheet with owner := 1207, stage := .releasing (grantAt 3) }
        ∧ (forsaken.adir.accounts.lookup 1207).map (·.state) = some (.retiring 999000)
        ∧ ∀ d, StartWork.deadline d ∉ [])
      ∧ (world.hq.jobs.lookup 3 = some { sheet with owner := 1207, stage := .releasing (grantAt 3) }
        ∧ (world.adir.accounts.lookup 1207).map (·.state) = some .active ∧ ¬fallen world.fck.uptime later)
      ∧ (∀ e ∈ (withJob 4 { sheet with owner := 1207 }).hq.jobs, e.2.owner = 1207 → e.2.stage.code ≠ 2) :=
  ⟨by constructor <;> first | decide +kernel | (constructor <;> decide +kernel),
    by constructor <;> first | decide +kernel | (constructor <;> decide +kernel), ⟨by decide, past_fallen⟩,
    ⟨by decide, by decide, nofun⟩, ⟨by decide, by decide, later_waits⟩, by decide⟩

/-- Account 310 with an OPEN visit at printer 2, and account 640 with one at printer 57 where asked. -/
def barred (theirs : Bool) : Records :=
  if theirs then ((base.setVisit 57 (.opened { opened [2] 0 with account := 640 })).setAccount 640
    { person with liveJobs := 1, openVisit := some 57 }).toRecords
  else world

theorem witness_BadgePresented_refused :
    (∀ b ∈ world.adir.badges, b.code ≠ 99)
      ∧ (boundTo? world 79 = some 1207 ∧ (forsaken.adir.accounts.lookup 1207).map (·.state) = some (.retiring 999000))
      ∧ (world.ptb.printers.lookup 95 = none ∧ (withPrinter 57 { machine with state := .retiring 5 }).ptb.printers.lookup 57
          = some { machine with state := .retiring 5 } ∧ machine.state = .inService)
      ∧ (boundTo? world 78 = some 640 ∧ (world.adir.accounts.lookup 640).map (·.openVisit) = some (some 4)
        ∧ draining world 4 = true) := by decide

theorem witness_BadgePresented_clearTheWay :
    (world.rlu.visits.lookup 57 = none ∧ (world.adir.accounts.lookup 1207).map (·.openVisit) = some none)
      ∧ (world.rlu.visits.lookup 2).map Visit.account = some 310
      ∧ (world.adir.accounts.lookup 310).map (·.openVisit) = some (some 2)
      ∧ (barred true).rlu.visits.lookup 57 = some (.opened { opened [2] 0 with account := 640 })
      ∧ (barred true).rlu.visits.lookup 2 = some (.opened { opened [1] 0 with idle := past })
      ∧ ((barred true).adir.accounts.lookup 310).map (·.openVisit) = some (some 2)
      ∧ ((barred true).adir.accounts.lookup 1207).map (·.openVisit) = some none
      ∧ ((barred true).adir.accounts.lookup 640).isSome := by decide

theorem witness_CursorMoved_previous :
    Taken (asked world (.previous [] 3)) (.previous [] 3) ∧ Taken (asked world (.previous [] 4)) (.previous [] 4)
      ∧ world.rlu.visits.lookup 3 = none ∧ world.rlu.visits.lookup 4 = some (.draining draining57) :=
  ⟨taken_asked _ _, taken_asked _ _, by decide, by decide⟩

/-- Account 1,207 at printer 3 with job 5 in its menu, and another HELD job, 6, where asked. -/
def choosing (another : Bool) : Records :=
  let w := (base.setVisit 3 (.opened { account := 1207, menu := [5], more := 0, cursor := 0, idle := later })).setJob 6
    { sheet with owner := 1207 }
  (w.setJobList 1207 (if another then [3, 4, 5, 6] else [3, 4, 5])).toRecords

theorem witness_Selected_menu :
    (withVisit 3 (.opened (opened [] 0))).rlu.visits.lookup 3 = some (.opened (opened [] 0))
      ∧ eligibleJobs (choosing false) 3 1207 = [5] ∧ eligibleJobs (choosing true) 3 1207 = [5, 6]
      ∧ leaveMenu (choosing true) 3 3 { account := 1207, menu := [3, 5], more := 1, cursor := 1, idle := later } =
          { account := 1207, menu := [5, 6], more := 0, cursor := 0, idle := later } := by decide +kernel

/-- A printer that prints in colour and has the four slots for it. -/
def colourful : Printer := { machine with colourCapable := true, slotCount := 4 }

theorem witness_Selected_classes :
    world.ptb.printers.lookup 3 = some machine
      ∧ (handout.stage = .held ∧ machine.colourCapable = false) ∧ ({ sheet with target := .floor 8 } : Job).target ≠ .floor machine.floor
      ∧ ({ sheet with target := .printer 2, reroutedFrom := some 3 } : Job).reroutedFrom = some 3
      ∧ failure? (withPrinter 3 colourful) 3 { handout with owner := 4000 } = some .notPermitted
      ∧ failure? world 3 { sheet with size := .large } = some .capability
      ∧ failure? (withSlot 12 { cartridge with state := .empty }) 3 sheet = some .supply
      ∧ failure? world 3 { sheet with stage := .releasing (grantAt 3) } = some .state := by decide

theorem witness_UnknownRecordsRefused_more :
    (∀ c, Taken (asked world c) c)
      ∧ (∀ v, changes.colour = some v → v ≤ 1) ∧ boundTo? world 99 = none
      ∧ (submission.duplex ≤ 1 ∧ submission.size ≤ 2 ∧ (0 < submission.mono ∨ 0 < submission.colour) ∧ submission.targetKind = 2
        ∧ submission.targetNumber < 96 ∧ (world.adir.accounts.lookup submission.owner).map (·.colour) = some true
        ∧ (base.dropPrinter 3).ptb.printers.lookup 3 = none)
      ∧ (refit.colour.toList ++ refit.duplex.toList ++ refit.largeTray.toList ++ refit.autoReturn.toList
          ++ refit.restartPermitted.toList).all (· ≤ 1) = true
      ∧ (slotLetter? 0 = some .k ∧ world.ptb.printers.lookup 57 = some machine ∧ world.spu.types.lookup 31 = none)
      ∧ (127 < 128 ∧ 3 ≤ 3) := by
  refine ⟨fun c => taken_asked _ c, ?_, by decide⟩
  intro v h; cases h; decide

theorem witness_JobCancelled_visit :
    ((world.adir.accounts.lookup 310).map (·.openVisit) = some (some 2) ∧ 1 ∈ (opened [1] 0).menu ∧ 9 ∉ (opened [1] 0).menu
        ∧ world.rlu.visits.lookup 2 = some (.opened ⟨310, [1], 0, 0, past⟩))
      ∧ ((world.adir.accounts.lookup 640).map (·.openVisit) = some (some 4)
        ∧ world.rlu.visits.lookup 4 = some (.draining draining57) ∧ draining57.jobs.erase 2 = [] ∧ 9 ∉ draining57.jobs
        ∧ ({ draining57 with jobs := [2, 9] } : DrainVisit).jobs.erase 2 = [9]) := by decide

/-- Account 1,207 with an OPEN visit at printer 57 and so many jobs in its menu. -/
def watching (n : Nat) : Records :=
  ((base.setVisit 57 (.opened { opened (List.range' 10 n) 0 with account := 1207 })).setAccount 1207
    { person with reserved := 40, liveJobs := 3, inFlight := 2, openVisit := some 57 }).toRecords

theorem witness_ReleaseFailed_withdrawn :
    (world.hq.jobs.lookup 3 = some { sheet with owner := 1207, stage := .releasing (grantAt 3) } ∧ ownerRetiring world 1207 = false
        ∧ ownerRetiring forsaken 1207 = true
        ∧ lapsed.hq.jobs.lookup 3 = some { sheet with owner := 1207, expiry := past, stage := .releasing (grantAt 3) })
      ∧ releasingAt world 3 = [3]
      ∧ ((world.adir.accounts.lookup 1207).map (fun a => (a.pool, a.openVisit)) = some (none, none)
        ∧ (world.adir.accounts.lookup 310).map (·.pool) = some (some 5) ∧ world.adir.pools.lookup 5 = some department)
      ∧ ((watching 7).rlu.visits.lookup 57 = some (.opened { opened (List.range' 10 7) 0 with account := 1207 })
        ∧ eligible (watching 7) 57 5 = true ∧ eligible (watching 7) 57 3 = false
        ∧ (opened (List.range' 10 7) 0).menu.length < 8 ∧ 8 ≤ (opened (List.range' 10 8) 0).menu.length
        ∧ eligible (watching 8) 57 5 = true) := by decide

/-- Printer 3 with sibling 57, and job 1 pinned to it. -/
def paired : Work := (base.setPrinter 3 { machine with sibling := some 57 }).setJob 1 { sheet with target := .printer 3 }

theorem witness_WithdrawnAndReturned_change :
    ({ machine with present := false } : Printer).state = machine.state
      ∧ (machine.state = .inService ∧ ({ machine with state := .absent } : Printer).state = .absent)
      ∧ (({ machine with state := .restarting } : Printer).state = .restarting
        ∧ OutCause.fault .fuser ≠ .byRequest ∧ OutCause.restartFailed ≠ .byRequest) := by decide

theorem witness_WithdrawnAndReturned_reroute :
    TablesSound paired.toRecords
      ∧ (paired.ptb.printers.lookup 3 = some { machine with sibling := some 57 } ∧ paired.ptb.printers.lookup 57 = some machine)
      ∧ ((reroutePass 3 paired).hq.jobs.lookup 1).map (fun j => (j.target, j.reroutedFrom)) = some (.printer 57, some 3)
      ∧ (base.ptb.printers.lookup 3).map (·.sibling) = some none
      ∧ ((base.setPrinter 3 { machine with sibling := some 90 }).ptb.printers.lookup 90) = none :=
  ⟨by constructor <;> first | decide +kernel | (constructor <;> decide +kernel), by decide, by decide, by decide, by decide⟩

/-- The type at a position of 0, below its need, and one at its need. -/
theorem witness_SupplyDefinedAndSet_due :
    6 ∈ (State.work (quiet (withType 6 { toner with onHand := 0 }))).due ∧ (base.setType 6 { toner with onHand := 0 }).due = []
      ∧ need world 6 toner = 1 ∧ 6 ∉ base.due
      ∧ ((orderPoint (base.setType 6 { toner with onHand := 0 })).raised.map (fun n => (n.kind, n.key))) = [(.reorderDue, 6)] := by
  decide

/-- Printer 57's slot K waits for stock, with the type so stocked. -/
def queueing (onHand : Nat) (reservations : List Nat) : Work :=
  (base.setTickets [{ supplyCall with state := .waitingStock, deadline := none, holdsUnit := false }]).setType 6
    { toner with onHand, reservations }

theorem witness_StockMoved_units :
    ((queueing 1 []).spu.slots.lookup (slotKey 57 .k) = some cartridge
        ∧ (queueing 1 []).spu.types.lookup cartridge.supplyType = some { toner with onHand := 1, reservations := [] }
        ∧ (handOut (queueing 1 [])).cou.tickets.map (fun t => (t.state, t.holdsUnit)) = [(.dispatched, true)]
        ∧ (handOut (queueing 1 [8])).cou.tickets.map (fun t => (t.state, t.holdsUnit)) = [(.waitingStock, false)])
      ∧ ((withType 6 (ordered none 0)).spu.types.lookup 6 = some (ordered none 0) ∧ (ordered none 0).reservations = [] ++ [228]
        ∧ ticketOfSlot? (withType 6 (ordered none 0)) 228 = none ∧ ticketOfSlot? stood 228 = some supplyCall) := by decide

theorem witness_TonerConsumed_sensor :
    (cartridge.level ≤ toner.lowPercent ↔ False) ∧ cartridge.remaining ≠ 0
      ∧ ({ cartridge with level := 15 } : Slot).level ≤ toner.lowPercent ∧ toner.lowPercent < ({ cartridge with level := 16 } : Slot).level
      ∧ ({ cartridge with remaining := 0 } : Slot).remaining = 0
      ∧ cartridge.capacity * toner.lowPercent / 100 = 3600000 := by decide

/-- So many open tickets. -/
def swamped (n : Nat) : Work := base.setTickets ((List.range n).map (fun k => call (k + 1) 3 .restart))

theorem witness_CalloutsWorked_causes :
    ((swamped 63).cou.tickets.length < 64 ∧ 64 ≤ (swamped 64).cou.tickets.length)
      ∧ (∀ t ∈ base.cou.tickets, t.number ≠ 8) ∧ base.cou.lastTicket + 1 = 8
      ∧ (CauseKind.absence.slot? = none ∧ (queueing 1 []).spu.slots.lookup (slotKey 57 .k) = some cartridge)
      ∧ ((toner.reservations.length < toner.onHand) ∧ (ordered none 0).onHand ≤ (ordered none 0).reservations.length)
      ∧ (call 7 3 .absence).kind.slot? = none ∧ supplyCall.kind = .supply .k ∧ supplyCall.holdsUnit = true := by decide +kernel

/-- A roll deadline that has been reached and not taken: at its midnight, and held below it at the last uptime. -/
theorem witness_ClockSetAndRolled_waits :
    (fallen 5007200 ⟨5007200, false⟩ ∧ ((5007200 : Nat) + (clock 5007200).offset) % 86400 = 0)
      ∧ (fallen 4294967295 ⟨4294967295, false⟩ ∧ ((4294967295 : Nat) + (clock 4294967295).offset) % 86400 ≠ 0) := by
  refine ⟨⟨⟨rfl, by decide⟩, by decide⟩, ⟨rfl, by decide⟩, by decide⟩

/-! ### The records in agreement, and the clauses that rest on it -/

/-- The world with the reserved points that no job's reservation bears taken out. -/
def agreed : Records :=
  (((base.setAccount 88 { person with state := .suspended, reserved := 0 }).setAccount 310
    { person with pool := some 5, liveJobs := 1, openVisit := some 2, reserved := 0 }).setAccount 640
    { person with liveJobs := 1, openVisit := some 4, reserved := 0 }).toRecords

/-- The same with account 1,207 RETIRING and its HELD job gone. -/
def parting : Records :=
  (((State.work (quiet agreed)).dropJob 5).setJobList 1207 [3, 4]).setAccount 1207
    { person with state := .retiring 999000, reserved := 40, liveJobs := 2, inFlight := 2 } |>.toRecords

theorem witness_RecordsAgree : RecordsAgree agreed where
  members := by constructor <;> decide +kernel
  reserved := by constructor <;> decide +kernel
  jobs := by constructor <;> decide +kernel
  flight := by constructor <;> decide +kernel
  visits :=
    { accounts := by decide +kernel
      terminals := by decide +kernel
      printers := by decide +kernel
      ordered := by decide +kernel
      held := by decide +kernel
      sizes := by
        have h : agreed.rlu.visits = [(2, .opened { opened [1] 0 with idle := past }), (4, .draining draining57)] := rfl
        simp only [h, List.mem_cons, List.not_mem_nil, or_false]
        rintro v (rfl | rfl) <;> decide }

theorem witness_RecordsAgree_retiring : RecordsAgree parting where
  members := by constructor <;> decide +kernel
  reserved := by constructor <;> decide +kernel
  jobs := by constructor <;> decide +kernel
  flight := by constructor <;> decide +kernel
  visits :=
    { accounts := by decide +kernel
      terminals := by decide +kernel
      printers := by decide +kernel
      ordered := by decide +kernel
      held := by decide +kernel
      sizes := by
        have h : parting.rlu.visits = [(2, .opened { opened [1] 0 with idle := past }), (4, .draining draining57)] := rfl
        simp only [h, List.mem_cons, List.not_mem_nil, or_false]
        rintro v (rfl | rfl) <;> decide }

/-- The tables of both are sound, and the step from one of them that the statements speak of answers. -/
theorem witness_StepKeepsTablesAndCounts :
    TablesSound agreed ∧ TablesSound parting ∧ CountsBounded agreed ∧ CountsBounded parting
      ∧ (∃ t, step (asked agreed (.select [] 2)) = .next t) ∧ ∃ t, step (asked parting (.pagesDone [] pages)) = .next t :=
  ⟨by constructor <;> first | decide +kernel | (constructor <;> decide +kernel),
    by constructor <;> first | decide +kernel | (constructor <;> decide +kernel),
    by constructor <;> decide +kernel, by constructor <;> decide +kernel, ⟨_, rfl⟩, _, rfl⟩

/-- What the start takes of the deadlines that passed: job 5's expiry, and the completion window of job 4, whose owner retires with
it; a start that takes no deadline leaves that owner RETIRING. -/
theorem witness_WarmStart_deadlines :
    ((agreed.hq.jobs.lookup 5).map (fun j => (j.stage, j.expiry)) = some (.held, past)
        ∧ (agreed.hq.jobs.lookup 4).map (·.stage) = some (.printing { grantAt 3 with number := 42 } 999500)
        ∧ window? agreed 3 4 = some past ∧ fallen agreed.fck.uptime past)
      ∧ ((parting.adir.accounts.lookup 1207).map (·.state) = some (.retiring 999000)
        ∧ (parting.hq.jobs.lookup 4).map (fun j => (j.owner, j.stage)) =
            some (1207, .printing { grantAt 3 with number := 42 } 999500))
      ∧ ((∀ d, (darkWith agreed).fck.roll ≠ some d) ∧ crossed (darkWith agreed).fck = 0)
      ∧ (fallen 6300000 ⟨6050000, false⟩ ∧ (100 * 86400 - 6050000 : Int) ≤ 1099511627775) := by
  refine ⟨⟨by decide, by decide, by decide, past_fallen⟩, by decide, ⟨nofun, by decide⟩, ⟨⟨rfl, by decide⟩, by decide⟩⟩

theorem test_warm_start_completes_a_retirement :
    ((after (exec (.mainPowerRise [.deadline (.completionWindow 4)]) (darkWith parting))).map
        (fun t => ((t.adir.accounts.lookup 1207).isSome, (t.hq.jobs.lookup 4).isSome))) = some (false, false)
      ∧ ((after (exec (.mainPowerRise []) (darkWith parting))).map
        (fun t => ((t.adir.accounts.lookup 1207).isSome, (t.hq.jobs.lookup 4).isSome))) = some (true, true) := by
  decide +kernel

/-! ### The refusals that the statements name -/

/-- A printer and a supply type that retire. -/
def withdrawing : Printer := { machine with state := .retiring 999000, heartbeat := none }
def phasedOut : SupplyType := { toner with state := .retiring }

theorem witness_AccountOpened_refused :
    (∀ f, Taken (asked world (.accountOpen [] f)) (.accountOpen [] f))
      ∧ ((world.adir.accounts.lookup 310).map (·.state) = some .active
        ∧ (world.adir.accounts.lookup 88).map (·.state) = some .suspended
        ∧ (forsaken.adir.accounts.lookup 1207).map (·.state) = some (.retiring 999000))
      ∧ (world.adir.accounts.lookup newcomer.account = none ∧ world.adir.pools.lookup 63 = none
        ∧ (withPool 12 { leaving with members := 0 }).adir.pools.lookup 12 = some { leaving with members := 0 }) :=
  ⟨fun _ => taken_asked _ _, by decide, by decide⟩

theorem test_account_open_refused :
    ([{ newcomer with account := 4096 }, { newcomer with colour := 2 }, { newcomer with account := 310, pool := some 64 },
        { newcomer with pool := some 64 }, { newcomer with pool := some 63 }].map
        (fun f => (replyTo world (.accountOpen [] f)).map (·.1))) =
      [some .range, some .range, some .duplicate, some .range, some .noRecord] := by decide +kernel

theorem witness_AccountSettingsChanged_pools :
    (∀ (r : Records) f, Taken (asked r (.accountSet [] f)) (.accountSet [] f))
      ∧ ((world.adir.accounts.lookup 1207).map (fun a => (a.state, a.pool, a.inFlight)) = some (.active, none, 2)
        ∧ (world.adir.accounts.lookup 310).map (fun a => (a.state, a.pool, a.inFlight)) = some (.active, some 5, 0)
        ∧ ((withAccount 310 { person with pool := some 5, inFlight := 1 }).adir.accounts.lookup 310).map
            (fun a => (a.pool, a.inFlight)) = some (some 5, 1))
      ∧ (world.adir.pools.lookup 63 = none ∧ world.adir.pools.lookup 12 = some { department with members := 0 }
        ∧ (withPool 12 leaving).adir.pools.lookup 12 = some leaving)
      ∧ (forsaken.adir.accounts.lookup 1207).map (·.state) = some (.retiring 999000) :=
  ⟨fun _ _ => taken_asked _ _, by decide, by decide, by decide⟩

/-- Account 310 leaves pool 5 and joins pool 12: one member moves. -/
theorem test_account_set_pool :
    ((recordsAfter world (.accountSet [] ⟨310, some (some 12), none, none, none, none, none⟩)).map
        (fun r => r.adir.pools.map (fun e => (e.1, e.2.members)))) = some [(5, 0), (12, 1)]
      ∧ (replyTo world (.accountSet [] ⟨1207, some (some 12), none, none, none, none, none⟩)).map (·.1) = some .busy := by
  decide +kernel

/-- A directory with so many bindings. -/
def crammed (n : Nat) : Records := (base.setBadges ((List.range n).map (fun k => ⟨1000 + k, 640⟩))).toRecords

theorem crammed_length (n : Nat) : (crammed n).adir.badges.length = n := by
  change (List.map _ (List.range n)).length = n
  simp

theorem crammed_codes (n : Nat) : ∀ b ∈ (crammed n).adir.badges, b.code ≠ 81 := by
  intro b h
  obtain ⟨k, -, rfl⟩ := List.mem_map.mp (show b ∈ List.map _ (List.range n) from h)
  change 1000 + k ≠ 81
  omega

theorem witness_BadgesBoundAndUnbound_refused :
    (∀ (r : Records) code i, Taken (asked r (.badgeBind [] code i)) (.badgeBind [] code i)
        ∧ Taken (asked r (.badgeUnbind [] code i)) (.badgeUnbind [] code i))
      ∧ (forsaken.adir.accounts.lookup 1207).map (·.state) = some (.retiring 999000)
      ∧ (∃ b ∈ world.adir.badges, b.code = 77)
      ∧ ((∀ b ∈ world.adir.badges, b.code ≠ 81)
        ∧ ((withAccount 310 { person with badgeCount := 2 }).adir.accounts.lookup 310).map (·.badgeCount) = some 2)
      ∧ ((∀ b ∈ (crammed 6144).adir.badges, b.code ≠ 81) ∧ 6144 ≤ (crammed 6144).adir.badges.length
        ∧ (crammed 6143).adir.badges.length < 6144 ∧ ((crammed 6144).adir.accounts.lookup 310).map (·.badgeCount) = some 1) :=
  ⟨fun _ _ _ => ⟨taken_asked _ _, taken_asked _ _⟩, by decide, by decide, by decide, crammed_codes _,
    by rw [crammed_length], by rw [crammed_length]; decide, rfl⟩

/-- The next numbers: around the end, past those in use. -/
theorem witness_JobSubmitted_numbers :
    nextNumber 65535 [65535, 1, 2] 65534 3 ∧ nextNumber 65535 [5] 5 6 ∧ nextNumber 65535 [1] 65535 2
      ∧ nextNumber 4294967295 [4294967295] 4294967294 1 := by
  refine ⟨⟨3, by decide, by decide, ?_⟩, ⟨0, by decide, by decide, nofun⟩, ⟨1, by decide, by decide, ?_⟩,
    ⟨1, by decide, by decide, ?_⟩⟩ <;> intro m hm
  · obtain rfl | rfl | rfl : m = 0 ∨ m = 1 ∨ m = 2 := by omega
    all_goals decide
  · obtain rfl : m = 0 := by omega
    decide
  · obtain rfl : m = 0 := by omega
    decide

theorem witness_JobSubmitted_refused :
    (∀ (r : Records) f, Taken (asked r (.jobSubmit [] f)) (.jobSubmit [] f))
      ∧ (1 < ({ submission with duplex := 2 } : JobSubmit).duplex ∧ 2 < ({ submission with size := 3 } : JobSubmit).size
        ∧ 2 < ({ submission with targetKind := 3 } : JobSubmit).targetKind
        ∧ (({ submission with mono := 0 } : JobSubmit).mono = 0 ∧ submission.colour = 0))
      ∧ ((world.adir.accounts.lookup 88).map (·.state) = some .suspended
        ∧ (forsaken.adir.accounts.lookup 1207).map (·.state) = some (.retiring 999000)
        ∧ (withAccount 1207 { person with colour := false }).adir.accounts.lookup 1207 =
            some { person with colour := false })
      ∧ (withPrinter 3 withdrawing).ptb.printers.lookup 3 = some withdrawing :=
  ⟨fun _ _ => taken_asked _ _, by decide, by decide, by decide⟩

theorem test_job_submit_refused :
    ([{ submission with duplex := 2 }, { submission with size := 3 }, { submission with targetKind := 3 },
        { submission with targetKind := 1, targetNumber := 128 }, { submission with mono := 0 },
        { submission with owner := 88 }, { submission with targetNumber := 95 }].map
        (fun f => (replyTo world (.jobSubmit [] f)).map (·.1))) =
      [some .range, some .range, some .range, some .range, some .range, some .state, some .noRecord] := by decide +kernel

theorem witness_JobCancelled_refused :
    world.hq.jobs.lookup 6 = none ∧ world.hq.jobs.lookup 65535 = none ∧ (65535 : Nat) < 65536 ∧ (4095 : Nat) < 4096 := by decide

theorem witness_SpoolAccepted_reports :
    (∀ (r : Records) c, Taken (asked r c) c)
      ∧ ((Instr.spoolFailed [] 3 41).request? = some (0x33, []) ∧ (Instr.pagesDone [] pages).request? = some (0x34, [])
        ∧ pages.job = 4 ∧ pages.grant = 42)
      ∧ (world.hq.jobs.lookup 6 = none ∧ (world.hq.jobs.lookup 5).map (·.stage) = some .held
        ∧ (world.hq.jobs.lookup 3).map (·.stage) = some (.releasing (grantAt 3)) ∧ (grantAt 3).number ≠ 42
        ∧ (world.hq.jobs.lookup 4).map (·.stage) = some (.printing { grantAt 3 with number := 42 } 999500)) :=
  ⟨fun _ _ => taken_asked _ _, by decide, by decide⟩

theorem test_reports_refused :
    ([.spoolAccepted [] 0 41, .spoolFailed [] 3 0, .pagesDone [] { pages with job := 6 }, .spoolFailed [] 5 41,
        .spoolAccepted [] 3 42, .pagesDone [] { pages with grant := 41 }, .spoolFailed [] 4 42].map (replyTo world)) =
      [some (.range, []), some (.range, []), some (.noRecord, []), some (.mismatch, [u8 0]), some (.mismatch, [u8 1]),
        some (.mismatch, [u8 2]), some (.state, [])] := by decide +kernel

theorem witness_PrinterAddedAndSet_refused :
    (∀ (r : Records) f, Taken (asked r (.printerAdd [] f)) (.printerAdd [] f))
      ∧ (∀ (r : Records) f, Taken (asked r (.printerSet [] f)) (.printerSet [] f))
      ∧ (world.ptb.printers.lookup 57 = some machine
        ∧ (withPrinter 57 withdrawing).ptb.printers.lookup 57 = some withdrawing ∧ world.ptb.printers.lookup 95 = none)
      ∧ (¬(({ arrival with slotCount := 1 } : PrinterAdd).slotCount = 4 ∨ arrival.colour = 0)
        ∧ ¬({ arrival with floor := 128 } : PrinterAdd).floor < 128)
      ∧ (({ refit with colour := some 1, slotCount := none } : PrinterSet).slotCount.getD machine.slotCount ≠ 4) :=
  ⟨fun _ _ => taken_asked _ _, fun _ _ => taken_asked _ _, by decide, by decide, by decide⟩

theorem test_printer_add_refused :
    ([{ arrival with printer := 96 }, { arrival with duplex := 2 }, { arrival with printer := 57, floor := 128 },
        { arrival with modelGroup := 16 }, { arrival with slotCount := 1 }, { arrival with sibling := some 41 },
        { arrival with sibling := some 95 }].map (fun f => (replyTo world (.printerAdd [] f)).map (·.1))) =
      [some .range, some .range, some .duplicate, some .range, some .range, some .range, some .range]
      ∧ (replyTo (withPrinter 57 withdrawing) (.printerAdd [] arrival)).map (·.1) = some .retiring := by decide +kernel

theorem witness_SupplyDefinedAndSet_refused :
    (∀ (r : Records) c, Taken (asked r c) c)
      ∧ (world.spu.types.lookup 6 = some toner ∧ toner.state = .active ∧ world.spu.types.lookup 31 = none)
      ∧ (withType 6 phasedOut).spu.types.lookup 6 = some phasedOut
      ∧ (Instr.orderPlaced [] 6 4).request? = some (0x57, []) := ⟨fun _ _ => taken_asked _ _, by decide, by decide, by decide⟩

theorem test_supply_refused :
    ([.supplyDefine [] 32 0 0 settings, .supplyDefine [] 6 4 0 settings, .supplyDefine [] 31 4 0 settings,
        .supplyDefine [] 31 3 16 settings, .orderPlaced [] 6 0, .deliveryReceived [] 6 1000, .stockAdjust [] 6 1000].map
        (fun c => (replyTo world c).map (·.1))) =
      [some .range, some .duplicate, some .range, some .range, some .range, some .range, some .range]
      ∧ ([.supplyDefine [] 6 0 0 settings, .supplySet [] 6 settings, .supplyRetire [] 6, .orderPlaced [] 6 4,
          .deliveryReceived [] 6 4, .stockAdjust [] 6 4].map (fun c => (replyTo (withType 6 phasedOut) c).map (·.1))) =
        List.replicate 6 (some .retiring) := by decide +kernel

theorem witness_CartridgeInstalled_refused :
    (∀ (r : Records) l k, Taken (asked r (.cartridgeInstall [] 57 l k)) (.cartridgeInstall [] 57 l k))
      ∧ ((withPrinter 57 withdrawing).ptb.printers.lookup 57 = some withdrawing
        ∧ (slotLetter? 1 = some .c ∧ machine.slotCount ≠ 4) ∧ (withType 6 phasedOut).spu.types.lookup 6 = some phasedOut) :=
  ⟨fun _ _ _ => taken_asked _ _, by decide⟩

/-- The slot's ticket, an owed cause of the slot, and the slot before: what the installation tells. -/
theorem witness_CartridgeInstalled_told :
    (base.spu.slots.lookup (slotKey 57 .k) = some cartridge ∧ ∀ t ∈ base.cou.tickets, ¬(t.printer = 57 ∧ t.kind = .supply .k))
      ∧ (stood.cou.tickets = [call 7 3 .absence] ++ supplyCall :: [] ∧ supplyCall.printer = 57 ∧ supplyCall.kind = .supply .k)
      ∧ ((announceInstall 57 .k none base).raised.map (fun n => (n.kind, n.key)) = [(.slotLevel, 228)]
        ∧ announceInstall 57 .k (some cartridge) base = base
        ∧ (announceInstall 57 .k (some { cartridge with state := .low }) base).raised.map (·.kind) = [.slotLevel])
      ∧ (tellInstalled 228 false (base.setBacklog [⟨57, .supply .k, now⟩, ⟨57, .restart, now⟩])).cou.backlog =
          [⟨57, .restart, now⟩] := by decide +kernel

theorem witness_RecordsRetired_again :
    Taken (asked forsaken (.accountRetire [] 1207)) (.accountRetire [] 1207)
      ∧ (forsaken.adir.accounts.lookup 1207).map (·.state) = some (.retiring 999000) := ⟨taken_asked _ _, by decide⟩

theorem witness_PrinterRetiredAndReseated_retiring :
    (∀ c, Taken (asked (withPrinter 3 withdrawing) c) c)
      ∧ ((withPrinter 3 withdrawing).ptb.printers.lookup 3 = some withdrawing
        ∧ (withPrinter 3 withdrawing).rlu.visits.lookup 3 = none) := ⟨fun _ => taken_asked _ _, by decide⟩

/-- R163's table, request by request. -/
theorem test_retiring_printer :
    ([.printerRetire [] 3, .serviceWithdraw [] 3, .serviceReturn [] 3, .printerReseat [] 3, .next [] 3, .done [] 3,
        .cartridgeInstall [] 3 0 6, .printerSet [] refit, .badgePresented [] 3 77].map
        (fun c => (replyTo (withPrinter 3 withdrawing) c).map (·.1))) =
      [some .retiring, some .retiring, some .retiring, some .state, some .state, some .state, some .retiring, some .retiring,
        some .retiring] := by decide +kernel

theorem test_ticket_refused :
    ([.calloutAck [] 0, .calloutClose [] 0, .calloutAck [] 8, .calloutClose [] 8, .jobCancel [] 0 310, .jobCancel [] 6 310,
        .jobCancel [] 1 4096].map (fun c => (replyTo world c).map (·.1))) =
      [some .range, some .range, some .noRecord, some .noRecord, some .range, some .noRecord, some .range] := by decide +kernel

/-! ### The grants, the drains and the day rolls in full -/

/-- SELECT by a member of pool 5, whose pool bears a part; the visit of printer 2. -/
theorem witness_Selected_pool :
    let j := { sheet with mono := 60 }
    let r := withJob 1 j
    (r.adir.accounts.lookup 310).map (·.pool) = some (some 5) ∧ r.adir.pools.lookup 5 = some department
      ∧ askReservation r j = .parts 90 30 ∧ failure? r 2 j = none ∧ inFlightList r 2 = []
      ∧ r.rlu.visits.lookup 2 = some (.opened { opened [1] 0 with idle := past }) := by decide +kernel

/-- The grant: visit 2's menu is left empty, account 310 has a job in flight and its points reserved. -/
theorem test_select_grants :
    ((recordsAfter world (.select [] 2)).map (fun r => (r.rlu.visits.lookup 2,
        (r.adir.accounts.lookup 310).map (fun a => (a.reserved, a.inFlight, a.warned)),
        (inFlightList r 2).map (·.job)))) =
      some (some (.opened { account := 310, menu := [], more := 0, cursor := 0, idle := ⟨now + 60, false⟩ }),
        some (80, 1, false), [1]) := by decide +kernel

/-- A drain of two: its head is dropped and the rest stays; with one left the visit is closed. -/
theorem witness_DrainGranted_rest :
    (leaveDrain 4 { draining57 with jobs := [9], dropped := 1 } base).rlu.visits.lookup 4 =
        some (.draining { draining57 with jobs := [9], dropped := 1 })
      ∧ (leaveDrain 4 { draining57 with jobs := [], granted := 1 } base).rlu.visits.lookup 4 = none
      ∧ (leaveDrain 4 { draining57 with jobs := [], granted := 1 } base).raised =
          [{ kind := .visitClosed, key := 4, body := [u8 4, u16 640, u8 3, u8 1, u8 0] }]
      ∧ (base.adir.accounts.lookup draining57.account).isSome
      ∧ ((grantJob 4 2 { sheet with owner := 640 } 60 0 base).adir.accounts.lookup 640).map (·.inFlight) = some 1 := by
  decide +kernel

/-- Several day rolls: with a countdown of 2 and a period of 30 days, the first period roll falls on the second day roll, the next on
the thirty-second. -/
theorem witness_ClockSetAndRolled_periods :
    (1 < 2 ∧ periodRollsAmong 30 1 2 = 0) ∧ (2 ≤ 2 ∧ periodRollsAmong 30 2 2 = 1) ∧ periodRollsAmong 30 31 2 = 1
      ∧ periodRollsAmong 30 32 2 = 2 ∧ (dayRolls 2 base).fck = (dayRoll (dayRoll base)).fck := by decide +kernel

/-- A day roll that brings a period roll: an account whose warning ends with the replenishment, PERIOD_ROLLED, a slot that runs LOW,
and its type's need above its position. -/
theorem test_day_roll_notices :
    let r := { ((base.setAccount 2044 { person with balance := 10, reserved := 0, overdraft := 0, warned := true }).setSlot 228
      { cartridge with today := 2000000, average := 2000000 }).toRecords with fck := { world.fck with countdown := 1 } }
    ((dayRoll (State.work (quiet r))).raised.map (fun n => (n.kind, n.key))) =
      [(.quotaWarning, 2044), (.periodRolled, 0), (.slotLevel, 228), (.reorderDue, 6)] := by decide +kernel

/-- CLOCK_READ: the seconds of an ordinary roll deadline are its value less uptime. -/
theorem test_clock_read :
    (replyTo (withClock (clock 5000000)) (.clockRead [])).map (fun a => (a.1, a.2[4]?, a.2[5]?)) =
      some (.ok, some (u32 5007200), some (u32 7200)) := by decide +kernel

/-! ### The manual's worked examples, one step each -/

/-- The worked charges (2.1). -/
theorem test_worked_charges :
    [charge world.qtu 30 12 .standard, charge world.qtu 30 12 .large, charge world.qtu 30 12 .small,
      charge { world.qtu with monoWeight := 3 } 5 0 .small, charge { world.qtu with monoWeight := 1 } 1 0 .small,
      charge world.qtu 0 1 .large] = [156, 312, 78, 8, 1, 16] := by decide

/-- The worked settlement (2.5): account 310 gives 90 and pool 5 gives 66; the account is then WARNED. -/
def settledPeople : Adir :=
  (reserve 310 90 66 (State.work (quiet (withAccount 310 { person with pool := some 5 })))).adir
theorem test_worked_reservation :
    askReservation world handout = .parts 90 66
      ∧ (settledPeople.accounts.lookup 310).map (fun a => (a.reserved, a.available, a.warned)) = some (110, 0, true)
      ∧ (settledPeople.pools.lookup 5).map (fun p => (p.balance, p.reserved)) = some (500, 66) := by decide

/-- The worked settlement at 28 mono and 12 colour sides: A is 152, the account pays 90 and the pool 62. -/
theorem test_worked_settlement :
    settledParts { grantAt 3 with accountPart := 90, poolPart := 66 } 152 = (90, 62)
      ∧ settledParts (grantAt 3) 28 = (28, 0) ∧ lower (-1048560) 28 = -1048575 := by decide

/-- The worked period roll (2.9): the balances after. -/
theorem test_worked_replenishment :
    [replenished 40 600, replenished 1100 600, replenished (-300) 600, replenished 3000 600, replenished 45 0,
      replenished 438 4000] = [640, 1200, 300, 3000, 45, 4438] := by decide

/-- 1.6 step 2: the overdraft is clamped and warn high raised to warn low; the account joins pool 12. -/
theorem test_account_open :
    replyTo world (.accountOpen [] { newcomer with overdraft := 65536 }) =
        some (.ok, [u8 12, flag true, u32 600, u16 65535, u32 80, u32 80, s32 600, flag false])
      ∧ ((recordsAfter world (.accountOpen [] newcomer)).bind (·.adir.pools.lookup 12)).map (·.members) = some 1 := by
  decide +kernel

/-- 1.6 step 4: a code that is bound already. -/
theorem test_badge_bind_duplicate : replyTo world (.badgeBind [] 77 1207) = some (.duplicate, []) := by decide +kernel

/-- 3.12: at 32 live jobs the oldest HELD job is displaced, and the new job's expiry is 24 hours off. -/
theorem test_displacement :
    replyTo (loaded 32 true 32) (.jobSubmit [] submission) =
      some (.ok, [u16 33, u32 (now + 86400), u8 32, u16 2]) := by decide +kernel

/-- 3.12: a displaced job's removal is announced. -/
theorem test_displacement_notice :
    noticesOf (loaded 32 true 32) (.jobSubmit [] submission) = some [(.jobRemoved, 2)] := by decide +kernel

/-- 4.12: a badge at a terminal opens the menu. -/
theorem test_badge_presented :
    (replyTo world (.badgePresented [] 57 77)).map (·.1) = some .ok
      ∧ ((recordsAfter world (.badgePresented [] 57 77)).bind (·.rlu.visits.lookup 57)) =
        some (.opened { account := 310, menu := [1], more := 0, cursor := 0, idle := ⟨now + 60, false⟩ })
      ∧ noticesOf world (.badgePresented [] 57 77) = some [(.visitClosed, 2)] := by decide +kernel

/-- 4.12: SELECT with 4 jobs in flight is BUSY; with 3 it grants, with a window of 120 s. -/
theorem test_select :
    (replyTo (atThree 4 sheet) (.select [] 3)).map (·.1) = some .busy
      ∧ (replyTo (atThree 3 sheet) (.select [] 3)).map (fun a => (a.1, a.2.drop 5)) =
        some (.ok, [u16 1, u32 43, u8 3, u32 60, u32 0, u32 (now + 120)]) := by decide +kernel

/-- 4.12: the drain's last grant ends it, GRANT before VISIT_CLOSED. -/
theorem test_drain_ends :
    (after (exec (.drainGrant 4) (quiet world))).map (fun t => (t.lnk.notices.drop 1).map noticeKey) =
        some [(.grant, 2), (.visitClosed, 4)]
      ∧ ((recordsOn world (.drainGrant 4)).map (fun r => (r.rlu.visits.lookup 4, r.rlu.lastGrant))) = some (none, 43) := by
  decide +kernel

/-- 4.12: a report counted as failed leaves the job HELD with one attempt; the account is refunded. -/
theorem test_spool_failed :
    replyTo (withJob 3 { sheet with owner := 1207, stage := .releasing (grantAt 3) }) (.spoolFailed [] 3 41) =
        some (.ok, [u8 1, u8 0, .absent])
      ∧ ((recordsAfter world (.spoolFailed [] 3 41)).bind (·.adir.accounts.lookup 1207)).map
        (fun a => (a.reserved, a.inFlight)) = some (20, 1) := by decide +kernel

/-- 4.12: SPOOL_ACCEPTED arms the completion window an hour off. -/
theorem test_spool_accepted :
    replyTo world (.spoolAccepted [] 3 41) = some (.ok, [u32 (now + 3600)]) := by decide +kernel

/-- 6.11 step 1: 200 sides at 6.50%. -/
theorem test_consumption :
    (cartridge.consume (consumption .standard 130000 200) 200) =
      { cartridge with remaining := 9080000, today := 1300000, sides := 6410, level := 37, projected := 8 } := by decide +kernel

/-- 6.11 steps 4 and 5: the clamp, and the rated basis of a default settlement. -/
theorem test_consumption_clamped :
    consumption .standard 600000 50 = 2000000 ∧ consumption .large (ratedCoverage 12 0).k 12 = 48000 := by decide +kernel

/-- 6.11 step 2: midnight, and the slot goes LOW. -/
theorem test_day_roll :
    let s := ({ cartridge with remaining := 9080000, today := 1300000, level := 37 } : Slot).rollDay 3
    (s.average, s.today, s.projected) = (1146875, 0, 7) ∧ levelVerdict toner s = .low := by decide +kernel

/-- 6.11 step 3: a LOW reading overrides the estimate. -/
theorem test_sensor :
    ((recordsAfter (withSlot 228 { cartridge with level := 37, remaining := 9080000, average := 1146875, state := .low })
        (.statusReport [] 57 0 [1])).bind (·.spu.slots.lookup 228)).map
        (fun s => (s.remaining, s.corrected, s.level, s.projected)) = some (3600000, true, 15, 3) := by decide +kernel

/-- 5.14: a FUSER report in IN_SERVICE begins qualification. -/
theorem test_report_qualifies :
    ((recordsAfter world (.statusReport [] 3 16 [0])).bind (·.ptb.printers.lookup 3)).map
        (fun q => (q.state, q.qualification, q.heartbeat)) =
      some (.qualifying, [(.fuser, ⟨now + 30, false⟩)], some ⟨now + 120, false⟩) := by decide +kernel

/-- 5.14: FUSER's deadline begins a restart, RESTART_REQUEST and then PRINTER_STATE. -/
theorem test_restart :
    let r := withPrinter 3 { machine with state := .qualifying, qualification := [(.fuser, past), (.doorOpen, later)] }
    ((recordsOn r (.qualificationDeadline 3 .fuser)).bind (·.ptb.printers.lookup 3)).map
        (fun q => (q.state, q.restartUsed, q.deadlines)) = some (.restarting, true, [⟨now + 600, false⟩])
      ∧ ((after (exec (.qualificationDeadline 3 .fuser) (quiet r))).map
        (fun t => ((t.lnk.notices.drop 1).map noticeKey).take 2)) =
        some [(.restartRequest, 3), (.printerState, 3)] := by decide +kernel

/-- 7.9: ORDER_PLACED of 4 with one unit reserved: position 4, need 1, ORDERED. -/
theorem test_order_placed :
    replyTo (withType 6 (ordered none 0)) (.orderPlaced [] 6 4) =
      some (.ok, [u32 4, u16 4, u32 (now + 604800), s32 4, u32 1, u8 1]) := by decide +kernel

/-- 7.9: the cartridge that the slot's ticket holds a unit for is fitted; the ticket is resolved. -/
theorem test_install :
    let r : Records := { withType 6 (ordered none 4) with cou := { world.cou with tickets := [supplyCall] } }
    (replyTo r (.cartridgeInstall [] 57 0 6)) =
        some (.ok, [u32 24000000, u32 1125000, u8 0, .absent, u32 9, u16 0, u16 0, u8 1])
      ∧ noticesOf r (.cartridgeInstall [] 57 0 6) = some [(.calloutResolved, 9)] := by decide +kernel

/-- 8.13: a ticket's deadline falls due at level 1: level 2, an hour more, and the alarm. -/
theorem test_escalation :
    let r := withTickets [{ call 9 3 (.fault .paperJam) with level := 1 }]
    (recordsOn r (.acknowledgementDeadline 9)).map (fun r => (r.cou.tickets.map (fun t => (t.level, t.deadline)), r.cou.alarm)) =
      some ([(2, some ⟨now + 3600, false⟩)], true) := by decide +kernel

/-- 8.13: CALLOUT_ACK arms the work deadline. -/
theorem test_acknowledged : replyTo world (.calloutAck [] 7) = some (.ok, [u8 0, u32 (now + 14400)]) := by decide +kernel

/-- 10.5: the forward set makes two day rolls and one period roll. -/
theorem test_clock_set_forward :
    replyTo (withClock (clock 5000000)) (.clockSet [] 1728252000 none) =
      some (.ok, [u40 1728252000, s48 1723252000, u32 2, u32 1, u16 302, u8 30, u32 5007200]) := by decide +kernel

/-- 10.5: the backward set makes none, and its midnight is rolled again. -/
theorem test_clock_set_backward :
    replyTo (withClock { clock 5000100 with offset := 1723252000 }) (.clockSet [] 1728165600 none) =
      some (.ok, [u40 1728165600, s48 1723165500, u32 0, u32 0, u16 300, u8 2, u32 5007300]) := by decide +kernel

/-- 10.5: the third set is refused. -/
theorem test_clock_jump :
    replyTo (withClock { clock 5000200 with offset := 1723165500 }) (.clockSet [] 1728365600 none) =
      some (.clockJump, [u40 1728165700]) := by decide +kernel

/-- 10.5: the roll deadline falls due. -/
theorem test_roll_deadline :
    (recordsOn (withClock { clock 5007300 with
          offset := 1723165500, roll := some ⟨5007300, false⟩, dayIndex := 302, countdown := 30 }) .rollDeadline).map (·.fck) =
      some { uptime := 5007300, offset := 1723165500, clockSet := true, roll := some ⟨5093700, false⟩, dayIndex := 303
             countdown := 29 } := by decide +kernel

/-- 10.6: the catch-up after an outage makes three day rolls, the second of which brings a period roll. -/
theorem test_catch_up :
    let f : Fck := { clock 6300000 with roll := some ⟨6050000, false⟩, offset := 100 * 86400 - 6050000 }
    let w := catchUp (State.work (quiet (withClock f)))
    crossed f = 3 ∧ w.fck.roll = some ⟨6309200, false⟩ ∧ w.fck.countdown = 29 ∧ w.fck.dayIndex = 303 := by
  decide +kernel

/-- 9.8: a printer with jobs in flight stays RETIRING; its two jobs in flight are told in the reply. -/
theorem test_printer_retire :
    (replyTo world (.printerRetire [] 3)) = some (.ok, [u8 2, u8 2, u32 0, u32 1, flag false])
      ∧ ((recordsAfter world (.printerRetire [] 3)).bind (·.ptb.printers.lookup 3)).map (·.state) = some (.retiring now) := by
  decide +kernel

/-- 11.10: a key that stands in the full queue is replaced in place, and a new one is owed. -/
theorem test_full_queue :
    ((crowded 64 0).place (removal 20)).notices[20]? = some { notice := removal 20, changes := 1 }
      ∧ ((crowded 64 1).place (removal 99)).owed.map noticeKey = [(.jobRemoved, 64), (.jobRemoved, 99)] := by decide +kernel

/-- 11.10: a complete READ_NOTICE moves the oldest owed notice up; one that ends after 5 bytes removes nothing. -/
theorem test_read_notice :
    (after (exec (.readNotice 10) waiting)).map (fun t => (t.lnk.notices.length, t.lnk.notices[63]?, t.lnk.owed.length)) =
        some (64, some (notice 64), 2)
      ∧ (after (exec (.readNotice 5) waiting)).map (fun t => (t.lnk.notices.length, t.lnk.owed.length)) = some (64, 3) := by
  decide +kernel
/-- 10.4: a forward set short of the next midnight rolls nothing where the roll deadline is held at the last uptime. -/
theorem test_clock_set_at_the_last_uptime :
    let f : Fck := { clock 4294967295 with roll := some ⟨4294967295, false⟩ }
    (replyTo (withClock f) (.clockSet [] (f.wall + 60) none)).map (fun a => a.2[2]?) = some (some (u32 0)) := by decide +kernel

/-- 9.5: the owner of a withdrawn release retires at the end of the handling, behind the cause's ticket. -/
theorem test_retired_at_the_end :
    let r := (((State.work (quiet forsaken)).setJob 4 { sheet with owner := 1207 }).setInFlight 3 [⟨3, past⟩]).setPrinter 3
      { machine with state := .qualifying, qualification := [(.doorOpen, past)] }
    let r' := r.setAccount 1207 { person with state := .retiring 999000, reserved := 20, liveJobs := 3, inFlight := 1 }
    (after (exec (.qualificationDeadline 3 .doorOpen) (quiet r'.toRecords))).map
        (fun t => (t.lnk.notices.drop 1).map noticeKey) =
      some [(.printerState, 3), (.jobRemoved, 3), (.calloutDispatch, 8), (.recordRetired, 1207)] := by decide +kernel

/-- R176: every byte of a transaction that is none of the six returns 0x00. -/
theorem test_unknown_transaction :
    (after (transaction [0x30, 1, 2] (quiet world))).map (·.lnk.dataOut) = some [0, 0, 0] := by decide

end Sys2Proof.Tests
end

section
/-! PROOF. The pools' requests (R15, R16): what POOL_OPEN and POOL_SET work in each case, and what the state is after it. -/

namespace Sys2Proof.Laws

open Sys2Proof.Machine Sys2Proof.Safety

/-! ### A taken request by the form of its handling (R179) -/

section
variable {s : State} {c : Instr} {f : Work → Work × Answer}

/-- A taken request that is refused leaves the records as they are, and a reply without a body. -/
theorem takeRequest_of_refuse {o : ReplyOutcome} (h : Taken s c) (code : Nat) (tag : Tag)
    (hf : f s.work = s.work.refuse o) : takeRequest c code tag f s = replied s code tag o [] := by
  rw [takeRequest_of_taken h, hf]; rfl

/-- A taken request that succeeds leaves its work, and a reply with its result fields. -/
theorem takeRequest_of_ok {w : Work} {body : List Field} (h : Taken s c) (code : Nat) (tag : Tag)
    (hf : f s.work = w.ok body) : takeRequest c code tag f s = worked s code tag w .ok body := by
  rw [takeRequest_of_taken h, hf]; rfl

end

/-- A clamp from 0 bounds from above only. -/
theorem clamp_zero (high v : Nat) : clamp 0 high v = min v high := by
  rw [clamp, Nat.zero_max, Nat.min_comm]

end Sys2Proof.Laws

namespace Sys2Proof.Pools

open Sys2Proof.Machine Sys2Proof.Safety Sys2Proof.Laws

theorem exec_poolOpen (tag : Tag) (i n : Nat) (s : State) :
    exec (.poolOpen tag i n) s = .next (takeRequest (.poolOpen tag i n) 0x1C tag (handlePoolOpen i n) s) := rfl

theorem exec_poolSet (tag : Tag) (i n : Nat) (s : State) :
    exec (.poolSet tag i n) s = .next (takeRequest (.poolSet tag i n) 0x1D tag (handlePoolSet i n) s) := rfl

/-- The record of a pool just opened (R15): the clamped allotment is also its balance. -/
def openedPool (n : Nat) : Pool :=
  { state := .active, allotment := min n 1000000, members := 0, balance := (min n 1000000 : Nat), reserved := 0
    usedPeriod := 0 }

/-! ### The two handlings, one lemma per case -/

section
variable {i n : Nat} {w : Work}

theorem handlePoolOpen_of_out_of_range (hi : 64 ≤ i) : handlePoolOpen i n w = w.refuse .range := if_pos hi

theorem handlePoolOpen_of_active {p : Pool} (hi : i < 64) (hp : w.adir.pools.lookup i = some p)
    (hs : p.state = .active) : handlePoolOpen i n w = w.refuse .duplicate := by
  have inRange : ¬ Config.pools ≤ i := Nat.not_le.mpr hi
  simp only [handlePoolOpen, if_neg inRange, hp, hs]

theorem handlePoolOpen_of_retiring {p : Pool} (hi : i < 64) (hp : w.adir.pools.lookup i = some p)
    (hs : p.state = .retiring) : handlePoolOpen i n w = w.refuse .retiring := by
  have inRange : ¬ Config.pools ≤ i := Nat.not_le.mpr hi
  simp only [handlePoolOpen, if_neg inRange, hp, hs]

theorem handlePoolOpen_of_free (hi : i < 64) (hp : w.adir.pools.lookup i = none) :
    handlePoolOpen i n w =
      (w.setPool i (openedPool n)).ok [u32 (min n 1000000), s32 (min n 1000000 : Nat)] := by
  have inRange : ¬ Config.pools ≤ i := Nat.not_le.mpr hi
  simp only [handlePoolOpen, if_neg inRange, hp, clamp_zero, Config.maxAllotment, openedPool]

theorem handlePoolSet_of_lookup {p : Pool} (hi : i < 64) (hp : w.adir.pools.lookup i = some p) :
    handlePoolSet i n w = (w.setPool i { p with allotment := min n 1000000 }).ok [u32 (min n 1000000)] := by
  have inRange : ¬ Config.pools ≤ i := Nat.not_le.mpr hi
  simp only [handlePoolSet, if_neg inRange, hp, clamp_zero, Config.maxAllotment]

end

/-- Settles O26: each case of R15 and R16 is the case of its handling, carried through the taken request. -/
theorem poolOpenedAndSet : Obligations.PoolOpenedAndSet := by
  intro s tag i n
  simp only [exec_poolOpen, exec_poolSet, Host.Outcome.next.injEq]
  refine ⟨fun taken => ⟨fun hi => ?outOfRange, fun p hi hp => ⟨fun hs => ?active, fun hs => ?retiring⟩,
    fun hi hp => ?free⟩, fun p taken hi hp => ?set⟩
  case outOfRange => exact takeRequest_of_refuse taken _ _ (handlePoolOpen_of_out_of_range hi)
  case active => exact takeRequest_of_refuse taken _ _ (handlePoolOpen_of_active hi hp hs)
  case retiring => exact takeRequest_of_refuse taken _ _ (handlePoolOpen_of_retiring hi hp hs)
  case free => exact takeRequest_of_ok taken _ _ (handlePoolOpen_of_free hi hp)
  case set => exact takeRequest_of_ok taken _ _ (handlePoolSet_of_lookup hi hp)

end Sys2Proof.Pools
end

section
/-! PROOF. The quota warning (R27): the warn state an evaluation leaves, and what the evaluation does with it. -/

namespace Sys2Proof.Laws

open Sys2Proof.Machine

/-! ### The warn state after an evaluation, from either state -/

section
variable {a : Account}

/-- A CLEAR account is WARNED at or below warn low, and only there. -/
theorem warnStateAfter_iff_of_clear (clear : a.warned = false) :
    warnStateAfter a = true ↔ a.available ≤ a.warnLow := by
  simp [warnStateAfter, clear]

/-- A WARNED account leaves the state only where both bounds of R27 are met. -/
theorem warnStateAfter_iff_of_warned (warned : a.warned = true) :
    warnStateAfter a = false ↔ a.warnHigh ≤ a.available ∧ a.warnLow < a.available := by
  simp [warnStateAfter, warned]

end

/-! ### The evaluation, by whether the warn state changes -/

section
variable {i : Nat} {w : Work} {a : Account}

theorem evaluateWarning_of_unchanged (found : w.adir.accounts.lookup i = some a)
    (same : warnStateAfter a = a.warned) : evaluateWarning i w = w := by
  simp only [evaluateWarning, found, if_pos same]

theorem evaluateWarning_of_changed (found : w.adir.accounts.lookup i = some a)
    (changed : warnStateAfter a ≠ a.warned) :
    evaluateWarning i w =
      (w.setAccount i { a with warned := warnStateAfter a }).raise .quotaWarning i
        [u16 i, flag (warnStateAfter a), s32 a.available, s32 a.balance] := by
  simp only [evaluateWarning, found, if_neg changed]

end

end Sys2Proof.Laws

namespace Sys2Proof.Quota

open Sys2Proof.Machine Sys2Proof.Laws

/-- Settles O22: in each case of R27 the bounds give the warn state after the evaluation, and whether it differs from the one
before decides between the notice and no change at all. -/
theorem warningEvaluated : Obligations.WarningEvaluated := by
  intro i w a found available turned
  have turns {b : Bool} (after : warnStateAfter a = b) (before : a.warned ≠ b) : evaluateWarning i w = turned b := by
    subst after
    exact evaluateWarning_of_changed found before.symm
  have stays {b : Bool} (after : warnStateAfter a = b) (before : a.warned = b) : evaluateWarning i w = w :=
    evaluateWarning_of_unchanged found (after.trans before.symm)
  refine ⟨fun clear low => ?warns, fun clear above => ?staysClear, fun warned high above => ?recovers,
    fun warned below => ?staysWarned⟩
  case warns => exact turns ((warnStateAfter_iff_of_clear clear).mpr low) (by simp [clear])
  case staysClear =>
    have notWarned : ¬ warnStateAfter a = true := mt (warnStateAfter_iff_of_clear clear).mp (Int.not_le.mpr above)
    exact stays (Bool.eq_false_of_not_eq_true notWarned) clear
  case recovers => exact turns ((warnStateAfter_iff_of_warned warned).mpr ⟨high, above⟩) (by simp [warned])
  case staysWarned =>
    have notCleared : ¬ warnStateAfter a = false := fun cleared => by
      obtain ⟨high, above⟩ := (warnStateAfter_iff_of_warned warned).mp cleared
      exact below.elim (Int.not_lt.mpr high) (Int.not_le.mpr above)
    exact stays (Bool.eq_true_of_not_eq_false notCleared) warned

end Sys2Proof.Quota
end

section
/-! PROOF. The placing of a notice (R181): the steps by which LNK places it, and the keys that stand after each. -/

namespace Sys2Proof.Laws

open Sys2Proof.Machine Sys2Proof.Safety

/-- A notice with the key of the raised one stands in the list. -/
def KeyStands (r : Raised) (ns : List Notice) : Prop := ∃ n ∈ ns, noticeKey n = (r.kind, r.key)

theorem any_sameKey_iff {r : Raised} {ns : List Notice} : ns.any (sameKey r) = true ↔ KeyStands r ns := by
  simp only [List.any_eq_true, sameKey_iff, KeyStands]

theorem coalesce_eq (r : Raised) :
    coalesce r = fun n =>
      if noticeKey n = (r.kind, r.key) then { notice := r, changes := min (n.changes + 1) 255 } else n := by
  funext n
  simp only [coalesce, sameKey_iff]

/-! ### The link after each step -/

section
variable {l : Lnk} {r : Raised}

theorem place_of_queued (queued : KeyStands r l.notices) :
    l.place r = { l with notices := l.notices.map (coalesce r) } := by
  rw [Lnk.place, if_pos (any_sameKey_iff.mpr queued)]

theorem place_of_owed (notQueued : ¬ KeyStands r l.notices) (owed : KeyStands r l.owed) :
    l.place r = { l with owed := l.owed.map (coalesce r) } := by
  rw [Lnk.place, if_neg (mt any_sameKey_iff.mp notQueued), if_pos (any_sameKey_iff.mpr owed)]

section
variable (notQueued : ¬ KeyStands r l.notices) (notOwed : ¬ KeyStands r l.owed)
include notQueued notOwed

/-- Where the key stands nowhere, the room of the queue and of the owed list decides (R181 steps 3 and 4). -/
theorem place_of_fresh :
    l.place r =
      if l.notices.length < 64 ∧ l.owed.isEmpty then { l with notices := l.notices ++ [{ notice := r, changes := 0 }] }
      else if l.owed.length < 1024 then { l with owed := l.owed ++ [{ notice := r, changes := 0 }] }
      else { l with noticesLost := true } := by
  rw [Lnk.place, if_neg (mt any_sameKey_iff.mp notQueued), if_neg (mt any_sameKey_iff.mp notOwed)]
  rfl

theorem place_of_room (room : l.notices.length < 64 ∧ l.owed = []) :
    l.place r = { l with notices := l.notices ++ [{ notice := r, changes := 0 }] } := by
  rw [place_of_fresh notQueued notOwed, if_pos (room.imp_right List.isEmpty_iff.mpr)]

theorem place_of_no_room (noRoom : ¬ (l.notices.length < 64 ∧ l.owed = [])) (space : l.owed.length < 1024) :
    l.place r = { l with owed := l.owed ++ [{ notice := r, changes := 0 }] } := by
  rw [place_of_fresh notQueued notOwed, if_neg (mt (And.imp_right List.isEmpty_iff.mp) noRoom), if_pos space]

theorem place_of_full (noRoom : ¬ (l.notices.length < 64 ∧ l.owed = [])) (full : 1024 ≤ l.owed.length) :
    l.place r = { l with noticesLost := true } := by
  rw [place_of_fresh notQueued notOwed, if_neg (mt (And.imp_right List.isEmpty_iff.mp) noRoom),
    if_neg (Nat.not_lt.mpr full)]

end

end

/-! ### The keys after each step -/

/-- A placed notice leaves the keys as they stand, or adds its own, which stood nowhere, behind all of them: it joins the queue
only where nothing is owed. -/
theorem map_noticeKey_place (l : Lnk) (r : Raised) :
    let keys := (l.notices ++ l.owed).map noticeKey
    let keysAfter := ((l.place r).notices ++ (l.place r).owed).map noticeKey
    keysAfter = keys ∨ (r.kind, r.key) ∉ keys ∧ keysAfter = keys ++ [(r.kind, r.key)] := by
  intro keys keysAfter
  by_cases queued : KeyStands r l.notices
  · left
    simp only [keysAfter, keys, place_of_queued queued, List.map_append, map_noticeKey_coalesce]
  by_cases owed : KeyStands r l.owed
  · left
    simp only [keysAfter, keys, place_of_owed queued owed, List.map_append, map_noticeKey_coalesce]
  have fresh : (r.kind, r.key) ∉ keys := by
    simp only [keys, List.map_append, List.mem_append, List.mem_map]
    exact not_or.mpr ⟨queued, owed⟩
  by_cases room : l.notices.length < 64 ∧ l.owed = []
  · right
    simp only [keysAfter, keys, place_of_room queued owed room]
    exact ⟨fresh, by simp [room.2, noticeKey]⟩
  obtain space | full := Nat.lt_or_ge l.owed.length 1024
  · right
    simp only [keysAfter, keys, place_of_no_room queued owed room space]
    exact ⟨fresh, by simp [noticeKey]⟩
  · left
    simp only [keysAfter, keys, place_of_full queued owed room full]

theorem nodup_map_noticeKey_place {l : Lnk} {r : Raised} (once : ((l.notices ++ l.owed).map noticeKey).Nodup) :
    (((l.place r).notices ++ (l.place r).owed).map noticeKey).Nodup := by
  obtain same | ⟨fresh, added⟩ := map_noticeKey_place l r
  · rwa [same]
  · rw [added, ← List.concat_eq_append]
    exact once.concat fresh

end Sys2Proof.Laws

namespace Sys2Proof.Link

open Sys2Proof.Machine Sys2Proof.Safety Sys2Proof.Laws

/-- Settles O13: each clause is a step of R181, and the last follows from what the steps do to the keys. -/
theorem noticePlacement : Obligations.NoticePlacement := by
  intro l r replaced queued owed
  have coalesced : coalesce r = replaced := coalesce_eq r
  refine ⟨fun hq => ?queued, fun hq ho => ?owed, fun hq ho room empty => ?joins, fun hq ho noRoom space => ?isOwed,
    fun hq ho noRoom full => ?lost, nodup_map_noticeKey_place⟩
  case queued => rw [place_of_queued hq, coalesced]
  case owed => rw [place_of_owed hq ho, coalesced]
  case joins => exact place_of_room hq ho ⟨room, empty⟩
  case isOwed => exact place_of_no_room hq ho noRoom space
  case lost => exact place_of_full hq ho noRoom full

end Sys2Proof.Link
end

section
/-! PROOF. The commands by their form: the work of each request and of each event, the state each form of command leaves, and the
records. Proofs about a command cite these lemmas and do not unfold `exec`. -/

namespace Sys2Proof.Laws

open Sys2Proof.Machine Sys2Proof.Safety

/-- The handling of a request (R179); a command that is no request has none, and stands here with one that does nothing. -/
def requestWork : Instr → Work → Work × Answer
  | .accountOpen _ f => handleAccountOpen f
  | .accountSet _ f => handleAccountSet f
  | .accountRead _ i => reads (answerAccountRead i)
  | .accountSuspend _ i => handleAccountSuspend i
  | .accountResume _ i => handleAccountResume i
  | .badgeBind _ code i => handleBadgeBind code i
  | .badgeUnbind _ code i => handleBadgeUnbind code i
  | .badgeFind _ code => reads (answerBadgeFind code)
  | .poolOpen _ i allotment => handlePoolOpen i allotment
  | .poolSet _ i allotment => handlePoolSet i allotment
  | .poolRead _ i => reads (answerPoolRead i)
  | .calloutRead _ n => reads (answerCalloutRead n)
  | .calloutList _ selection position => reads (answerCalloutList selection position)
  | .calloutAck _ n => handleCalloutAck n
  | .calloutClose _ n => handleCalloutClose n
  | .calloutConfig _ f => handleCalloutConfig f
  | .clockSet _ wall countdown => handleClockSet wall countdown
  | .clockRead _ => reads answerClockRead
  | .jobSubmit _ f => handleJobSubmit f
  | .jobCancel _ n account => handleJobCancel n account
  | .jobRead _ n => reads (answerJobRead n)
  | .jobList _ i position => reads (answerJobList i position)
  | .holdConfig _ hours => handleHoldConfig hours
  | .printerAdd _ f => handlePrinterAdd f
  | .printerSet _ f => handlePrinterSet f
  | .printerRead _ i => reads (answerPrinterRead i)
  | .statusReport _ i conditions readings => handleStatusReport i conditions readings
  | .conditionsClear _ i conditions => handleConditionsClear i conditions
  | .serviceWithdraw _ i => handleServiceWithdraw i
  | .serviceReturn _ i => handleServiceReturn i
  | .healthConfig _ f => handleHealthConfig f
  | .accountCredit _ i amount => handleAccountCredit i amount
  | .poolCredit _ i amount => handlePoolCredit i amount
  | .peakClear _ i => handlePeakClear i
  | .quotaConfig _ mono colour period => handleQuotaConfig mono colour period
  | .badgePresented _ printer code => handleBadgePresented printer code
  | .next _ printer => handleNext printer
  | .previous _ printer => handlePrevious printer
  | .select _ printer => handleSelect printer
  | .selectAll _ printer => handleSelectAll printer
  | .delete _ printer => handleDelete printer
  | .done _ printer => handleDone printer
  | .spoolAccepted _ n number => handleSpoolAccepted n number
  | .spoolFailed _ n number => handleSpoolFailed n number
  | .pagesDone _ f => handlePagesDone f
  | .visitRead _ printer => reads (answerVisitRead printer)
  | .releaseConfig _ f => handleReleaseConfig f
  | .cartridgeRead _ i letter => reads (answerCartridgeRead i letter)
  | .supplyConfig _ shift => handleSupplyConfig shift
  | .supplyDefine _ i colour modelGroup f => handleSupplyDefine i colour modelGroup f
  | .supplySet _ i f => handleSupplySet i f
  | .supplyRead _ i => reads (answerSupplyRead i)
  | .orderPlaced _ i quantity => handleOrderPlaced i quantity
  | .deliveryReceived _ i quantity => handleDeliveryReceived i quantity
  | .stockAdjust _ i count => handleStockAdjust i count
  | .cartridgeInstall _ printer letter i => handleCartridgeInstall printer letter i
  | .accountRetire _ i => handleAccountRetire i
  | .poolRetire _ i => handlePoolRetire i
  | .printerRetire _ i => handlePrinterRetire i
  | .supplyRetire _ i => handleSupplyRetire i
  | .printerReseat _ i => handlePrinterReseat i
  | _ => fun w => w.refuse .noRecord

/-- The handling of an event at a block (R168, R179); other commands are none. -/
def eventWork? : Instr → Option (Work → Work)
  | .expiryDeadline n => some (expiryFalls n)
  | .drainGrant p => some (drainGrants p)
  | .idleDeadline p => some (idleFalls p)
  | .grantWindow n => some (grantWindowFalls n)
  | .completionWindow n => some (completionWindowFalls n)
  | .qualificationDeadline p c => some (qualificationFalls p c)
  | .restartDeadline p => some (restartFalls p)
  | .restartCreditDeadline p => some (restartCreditFalls p)
  | .heartbeatDeadline p => some (heartbeatFalls p)
  | .absenceDeadline p => some (absenceFalls p)
  | .overdueDeadline i => some (overdueFalls i)
  | .acknowledgementDeadline n => some (escalate .dispatched n)
  | .workDeadline n => some (escalate .acknowledged n)
  | .rollDeadline => some rollFalls
  | _ => none

/-! ### Requests -/

section
variable {c : Instr} {code : Nat} {tag : Tag}

/-- Every request is the taking of its handling. -/
theorem exec_request (hc : c.request? = some (code, tag)) (s : State) :
    exec c s = .next (takeRequest c code tag (requestWork c) s) := by
  cases c <;> cases hc <;> rfl

variable {s : State} {w : Work} {o : ReplyOutcome} {body : List Field}

theorem exec_worked (taken : Taken s c) (hc : c.request? = some (code, tag))
    (hw : requestWork c s.work = (w, ⟨o, body⟩)) : exec c s = .next (worked s code tag w o body) := by
  rw [exec_request hc, takeRequest_of_taken taken, hw]

theorem exec_ok (taken : Taken s c) (hc : c.request? = some (code, tag)) (hw : requestWork c s.work = w.ok body) :
    exec c s = .next (worked s code tag w .ok body) := exec_worked taken hc hw

/-- A request that changes no record and raises no notice. -/
theorem exec_replied (taken : Taken s c) (hc : c.request? = some (code, tag))
    (hw : requestWork c s.work = (s.work, ⟨o, body⟩)) : exec c s = .next (replied s code tag o body) :=
  exec_worked taken hc hw

theorem exec_refused (taken : Taken s c) (hc : c.request? = some (code, tag)) (hw : requestWork c s.work = s.work.refuse o) :
    exec c s = .next (replied s code tag o []) := exec_replied taken hc hw

end

/-- The records a request leaves: those its handling leaves, or, where it is not taken, those that stood. -/
theorem takeRequest_records (c : Instr) (code : Nat) (tag : Tag) (f : Work → Work × Answer) (s : State) :
    (takeRequest c code tag f s).toRecords = s.toRecords
      ∨ (takeRequest c code tag f s).toRecords = (f s.work).1.toRecords := by
  unfold takeRequest
  split
  · exact .inl rfl
  split
  · split
    · exact .inl rfl
    split
    · exact .inr rfl
    · exact .inl rfl
  · split
    · exact .inr rfl
    · exact .inl rfl

/-! ### Events -/

section
variable {c : Instr} {f : Work → Work} {s : State}

/-- Every event is the taking of its handling, but a drain grant that finds no room in the notice queue (R70). -/
theorem exec_event (hc : eventWork? c = some f) (s : State) :
    exec c s = .next (takeEvent f s) ∨ exec c s = .next s ∧ (∃ p, c = .drainGrant p) ∧ s.lnk.grantRoom = false := by
  cases c
  case drainGrant p =>
    cases hc
    cases room : s.lnk.grantRoom
    · exact .inr ⟨by simp [exec, execDrainGrant, room], ⟨p, rfl⟩, rfl⟩
    · exact .inl (by simp [exec, execDrainGrant, room])
  all_goals cases hc <;> exact .inl rfl

end

/-- The records an event leaves: those its handling leaves, or, without main power, those that stood. -/
theorem takeEvent_records (f : Work → Work) (s : State) :
    (takeEvent f s).toRecords = s.toRecords ∨ (takeEvent f s).toRecords = (f s.work).toRecords := by
  unfold takeEvent
  split
  · exact .inr rfl
  · exact .inl rfl

/-! ### The records a command leaves -/

/-- The records that a command can leave, by its form. -/
inductive Leaves (c : Instr) (s : State) : Records → Prop
  | same : Leaves c s s.toRecords
  | request : Leaves c s (requestWork c s.work).1.toRecords
  | event {f : Work → Work} (hc : eventWork? c = some f) : Leaves c s (f s.work).toRecords
  | warm {order : List StartWork} (hc : c = .mainPowerRise order) (power : s.lnk.mainPower = false)
      (retained : s.lnk.retention = true) : Leaves c s (warmWork order s.work).toRecords
  | cold {order : List StartWork} (hc : c = .mainPowerRise order) (power : s.lnk.mainPower = false)
      (lost : s.lnk.retention = false) : Leaves c s Records.cold
  | tick (hc : c = .uptimeTick) : Leaves c s { s.toRecords with fck := { s.fck with uptime := saturate (s.fck.uptime + 1) } }

theorem transact_records (clocked : Nat) (defined : Lnk → List Byte) (f : Lnk → Lnk) (s : State) :
    (transact clocked defined f s).toRecords = s.toRecords := by
  unfold transact
  split <;> rfl

theorem linkResetRelease_records (s : State) :
    (if !s.lnk.linkResetHeld then s
      else
        let released : State := { s with lnk := { s.lnk with linkResetHeld := false } }
        if s.lnk.mainPower then released.linkReset else State.settleLines released).toRecords = s.toRecords := by
  split
  · rfl
  · dsimp only
    split
    · rfl
    · rfl

@[simp] theorem commit_records (s : State) (w : Work) : (s.commit w).toRecords = w.toRecords := rfl

/-- A handling that is about to begin sees the records alone. -/
theorem work_congr {s t : State} (h : s.toRecords = t.toRecords) : s.work = t.work := by
  unfold State.work
  rw [h]

theorem warmStart_records (order : List StartWork) (s : State) :
    (s.warmStart order).toRecords = (warmWork order s.work).toRecords := by
  unfold State.warmStart
  rw [commit_records, work_congr (s := { s with lnk := s.lnk.powered .warm }) (t := s) rfl]

/-- A rise of main power is a warm or a cold start, or nothing (R185). -/
theorem leaves_mainPowerRise (order : List StartWork) (s : State) :
    Leaves (.mainPowerRise order) s
      (if s.lnk.mainPower then s else if s.lnk.retention then s.warmStart order else s.coldStart).toRecords := by
  split
  · exact .same
  · rename_i power
    split
    · rw [warmStart_records]; exact .warm rfl (by simpa using power) ‹_›
    · rename_i lost; exact .cold rfl (by simpa using power) (by simpa using lost)

theorem exec_leaves {c : Instr} {s t : State} (h : exec c s = .next t) : Leaves c s t.toRecords := by
  cases hq : c.request? with
  | some r =>
    rw [exec_request hq] at h
    obtain rfl := Host.Outcome.next.inj h
    obtain h | h := takeRequest_records c r.1 r.2 (requestWork c) s <;> rw [h]
    · exact .same
    · exact .request
  | none =>
    cases he : eventWork? c with
    | some f =>
      obtain h' | ⟨h', -⟩ := exec_event he s <;> (rw [h'] at h; obtain rfl := Host.Outcome.next.inj h)
      · obtain h | h := takeEvent_records f s <;> rw [h]
        · exact .same
        · exact .event he
      · exact .same
    | none =>
      cases c
      case mainPowerRise order => cases h; exact leaves_mainPowerRise order s
      case mainPowerFall => cases h; exact .same
      case standbyPowerLoss => cases h; exact .same
      case linkResetAssert => cases h; exact .same
      case linkResetRelease => cases h; rw [linkResetRelease_records]; exact .same
      case writeFrame => cases h; rw [transact_records]; exact .same
      case malformedMarker =>
        cases h
        split
        · split <;> exact .same
        · exact .same
      case readReply => cases h; rw [transact_records]; exact .same
      case readNotice => cases h; rw [transact_records]; exact .same
      case readLinkStatus => cases h; rw [transact_records]; exact .same
      case setAttentionMask => cases h; rw [transact_records]; exact .same
      case resync => cases h; split <;> exact .same
      case uptimeTick =>
        cases h
        split
        · exact .tick rfl
        · exact .same
      all_goals cases he <;> cases hq

/-- A property of the records that each form of command keeps is kept by a step. -/
theorem step_of_leaves {P : Records → Prop} {s t : State} (h : step s = .next t) (hs : P s.toRecords)
    (kept : ∀ c rest, s.pending = c :: rest → ∀ r, Leaves c { s with pending := rest } r → P r) : P t.toRecords := by
  unfold step at h
  split at h
  · cases h; exact hs
  · rename_i c rest hp
    exact kept c rest hp _ (exec_leaves h)

end Sys2Proof.Laws
end

section
/-! PROOF. What each handling can do to the work, said once: it leaves the work as it is, or its checks have passed and it does the
one thing its rule gives. The invariants follow these cases and do not unfold the handlings. -/

namespace Sys2Proof.Laws

open Sys2Proof.Machine Sys2Proof.Safety

variable {w : Work}

/-! ### The checks that several handlings share -/

/-- An account that is not RETIRING. -/
def Stays (a : Account) : Prop := ∀ accepted, a.state ≠ .retiring accepted

/-- A printer that is not RETIRING. -/
def Runs (p : Printer) : Prop := ∀ accepted, p.state ≠ .retiring accepted

theorem onType_cases (i : Nat) (f : SupplyType → Work × Answer) (w : Work) :
    (onType i f w).1 = w
      ∨ ∃ t, i < 32 ∧ w.spu.types.lookup i = some t ∧ t.state = .active ∧ onType i f w = f t := by
  unfold onType typeRefusal?
  split
  · exact .inl rfl
  · rename_i passed
    split at passed
    · cases passed
    · rename_i inRange
      split at passed
      · cases passed
      · rename_i t found
        split at passed
        · cases passed
        · rename_i active
          refine .inr ⟨t, Nat.not_le.mp inRange, found, ?_, by simp only⟩
          cases hs : t.state
          · rfl
          · exact absurd hs active

theorem onVisit_cases (p : Nat) (f : OpenVisit → Work × Answer) (w : Work) :
    (onVisit p f w).1 = w ∨ ∃ v, w.rlu.visits.lookup p = some (.opened v) ∧ onVisit p f w = f v := by
  unfold onVisit
  split
  · exact .inl rfl
  split
  · exact .inl rfl
  split
  · exact .inl rfl
  · exact .inl rfl
  · rename_i v found; exact .inr ⟨v, found, rfl⟩

theorem onGrant_cases (n number : Nat) (f : Job → Grant → Work × Answer) (w : Work) :
    (onGrant n number f w).1 = w
      ∨ ∃ j g, w.hq.jobs.lookup n = some j ∧ j.stage.grant? = some g ∧ onGrant n number f w = f j g := by
  unfold onGrant
  split
  · exact .inl rfl
  split
  · exact .inl rfl
  rename_i j found
  split
  · exact .inl rfl
  rename_i g granted
  split
  · exact .inl rfl
  · exact .inr ⟨j, g, found, granted, rfl⟩

/-! ### Accounts, badges and pools -/

theorem handleAccountOpen_cases (f : AccountOpen) (w : Work) :
    (handleAccountOpen f w).1 = w
      ∨ f.account < 4096 ∧ w.adir.accounts.lookup f.account = none ∧ poolRefusal? w.toRecords f.pool = none
        ∧ (handleAccountOpen f w).1 =
          evaluateWarning f.account (changeMembers (· + 1) f.pool (w.setAccount f.account (openedAccount f))) := by
  unfold handleAccountOpen
  split
  · exact .inl rfl
  split
  · exact .inl rfl
  rename_i inRange
  split
  · exact .inl rfl
  split
  · exact .inl rfl
  · exact .inr ⟨Nat.not_le.mp inRange, ‹_›, ‹_›, rfl⟩

theorem handleAccountSet_cases (f : AccountSet) (w : Work) :
    (handleAccountSet f w).1 = w
      ∨ ∃ a, w.adir.accounts.lookup f.account = some a ∧ Stays a
        ∧ poolChangeRefusal? w.toRecords a (f.pool.getD a.pool) = none
        ∧ ((handleAccountSet f w).1 =
              changePool a.pool (f.pool.getD a.pool) (w.setAccount f.account (setAccountFields f a))
          ∨ (handleAccountSet f w).1 = evaluateWarning f.account
              (changePool a.pool (f.pool.getD a.pool) (w.setAccount f.account (setAccountFields f a)))) := by
  unfold handleAccountSet
  split
  · exact .inl rfl
  split
  · exact .inl rfl
  split
  · exact .inl rfl
  rename_i a found
  split
  · exact .inl rfl
  rename_i stays
  split
  · exact .inl rfl
  refine .inr ⟨a, found, stays, ‹_›, ?_⟩
  dsimp only
  split
  · exact .inr rfl
  · exact .inl rfl

theorem handleAccountSuspend_cases (i : Nat) (w : Work) :
    (handleAccountSuspend i w).1 = w
      ∨ ∃ a, w.adir.accounts.lookup i = some a ∧ a.state = .active
        ∧ (handleAccountSuspend i w).1 = closeAccountVisit i .account (w.setAccount i { a with state := .suspended }) := by
  unfold handleAccountSuspend
  split
  · exact .inl rfl
  split
  · exact .inl rfl
  rename_i a found
  split
  · exact .inl rfl
  · exact .inl rfl
  · exact .inr ⟨a, found, ‹_›, rfl⟩

theorem handleAccountResume_cases (i : Nat) (w : Work) :
    (handleAccountResume i w).1 = w
      ∨ ∃ a, w.adir.accounts.lookup i = some a ∧ a.state = .suspended
        ∧ (handleAccountResume i w).1 = w.setAccount i { a with state := .active } := by
  unfold handleAccountResume
  split
  · exact .inl rfl
  split
  · exact .inl rfl
  rename_i a found
  split
  · exact .inl rfl
  · exact .inl rfl
  · exact .inr ⟨a, found, ‹_›, rfl⟩

theorem handleBadgeBind_cases (code i : Nat) (w : Work) :
    (handleBadgeBind code i w).1 = w
      ∨ ∃ a, code ≠ 0 ∧ w.adir.accounts.lookup i = some a ∧ Stays a ∧ boundTo? w.toRecords code = none
        ∧ a.badgeCount < 2 ∧ w.adir.badges.length < 6144
        ∧ (handleBadgeBind code i w).1 =
          (w.setBadges (w.adir.badges ++ [{ code, account := i }])).setAccount i { a with badgeCount := a.badgeCount + 1 } := by
  unfold handleBadgeBind
  split
  · exact .inl rfl
  rename_i inRange
  split
  · exact .inl rfl
  rename_i a found
  split
  · exact .inl rfl
  rename_i stays
  split
  · exact .inl rfl
  rename_i unbound
  split
  · exact .inl rfl
  rename_i few
  split
  · exact .inl rfl
  rename_i space
  exact .inr ⟨a, fun h => inRange (.inl h), found, stays, by simpa using unbound, Nat.not_le.mp few, Nat.not_le.mp space, rfl⟩

theorem handleBadgeUnbind_cases (code i : Nat) (w : Work) :
    (handleBadgeUnbind code i w).1 = w
      ∨ code ≠ 0 ∧ boundTo? w.toRecords code = some i
        ∧ (handleBadgeUnbind code i w).1 =
          (w.setBadges (w.adir.badges.filter (fun b => b.code != code))).updateAccount i
            (fun a => { a with badgeCount := a.badgeCount - 1 }) := by
  unfold handleBadgeUnbind
  split
  · exact .inl rfl
  rename_i inRange
  split
  · exact .inl rfl
  rename_i holder bound
  split
  · exact .inl rfl
  rename_i same
  obtain rfl : holder = i := not_not.mp same
  exact .inr ⟨fun h => inRange (.inl h), bound, rfl⟩

theorem handlePoolOpen_cases (i allotment : Nat) (w : Work) :
    (handlePoolOpen i allotment w).1 = w
      ∨ i < 64 ∧ w.adir.pools.lookup i = none
        ∧ (handlePoolOpen i allotment w).1 = w.setPool i (Sys2Proof.Pools.openedPool allotment) := by
  rcases Nat.lt_or_ge i 64 with hi | hi
  · cases found : w.adir.pools.lookup i with
    | none => rw [Sys2Proof.Pools.handlePoolOpen_of_free hi found]; exact .inr ⟨hi, rfl, rfl⟩
    | some p =>
      cases hs : p.state
      · rw [Sys2Proof.Pools.handlePoolOpen_of_active hi found hs]; exact .inl rfl
      · rw [Sys2Proof.Pools.handlePoolOpen_of_retiring hi found hs]; exact .inl rfl
  · rw [Sys2Proof.Pools.handlePoolOpen_of_out_of_range hi]; exact .inl rfl

theorem handlePoolSet_cases (i allotment : Nat) (w : Work) :
    (handlePoolSet i allotment w).1 = w
      ∨ ∃ p, w.adir.pools.lookup i = some p
        ∧ (handlePoolSet i allotment w).1 = w.setPool i { p with allotment := min allotment 1000000 } := by
  unfold handlePoolSet
  split
  · exact .inl rfl
  split
  · exact .inl rfl
  · rename_i p found
    refine .inr ⟨p, found, ?_⟩
    simp only [clamp_zero, Config.maxAllotment, Work.ok_fst]

theorem handleAccountCredit_cases (i : Nat) (amount : Int) (w : Work) :
    (handleAccountCredit i amount w).1 = w
      ∨ ∃ a, w.adir.accounts.lookup i = some a
        ∧ (handleAccountCredit i amount w).1 =
          evaluateWarning i (w.setAccount i { a with balance := credited a.balance amount }) := by
  unfold handleAccountCredit
  split
  · exact .inl rfl
  split
  · exact .inl rfl
  · exact .inr ⟨_, ‹_›, rfl⟩

theorem handlePoolCredit_cases (i : Nat) (amount : Int) (w : Work) :
    (handlePoolCredit i amount w).1 = w
      ∨ ∃ p, w.adir.pools.lookup i = some p
        ∧ (handlePoolCredit i amount w).1 = w.setPool i { p with balance := credited p.balance amount } := by
  unfold handlePoolCredit
  split
  · exact .inl rfl
  split
  · exact .inl rfl
  · exact .inr ⟨_, ‹_›, rfl⟩

theorem handlePeakClear_cases (i : Nat) (w : Work) :
    (handlePeakClear i w).1 = w
      ∨ ∃ a, w.adir.accounts.lookup i = some a ∧ (handlePeakClear i w).1 = w.setAccount i { a with peak := 0 } := by
  unfold handlePeakClear
  split
  · exact .inl rfl
  split
  · exact .inl rfl
  · exact .inr ⟨_, ‹_›, rfl⟩

theorem handleAccountRetire_cases (i : Nat) (w : Work) :
    (handleAccountRetire i w).1 = w
      ∨ ∃ a, w.adir.accounts.lookup i = some a ∧ Stays a ∧ (handleAccountRetire i w).1 = (retireAccount i a w).1 := by
  unfold handleAccountRetire
  split
  · exact .inl rfl
  split
  · exact .inl rfl
  rename_i a found
  split
  · exact .inl rfl
  · exact .inr ⟨a, found, ‹_›, rfl⟩

theorem handlePoolRetire_cases (i : Nat) (w : Work) :
    (handlePoolRetire i w).1 = w
      ∨ ∃ p, w.adir.pools.lookup i = some p ∧ p.members = 0
        ∧ (handlePoolRetire i w).1 = retiredNotice 1 i w.now (some p.balance) none (w.dropPool i) := by
  unfold handlePoolRetire
  split
  · exact .inl rfl
  split
  · exact .inl rfl
  rename_i p found
  split
  · exact .inl rfl
  · exact .inr ⟨p, found, by omega, rfl⟩

/-! ### The hold queue -/

/-- The room for a submission, by the job that is displaced for it (R42). -/
def RoomFor (r : Records) (owner : Nat) : Option Nat → Prop
  | none => room r owner = .free
  | some d => room r owner = .displacing d

theorem handleJobSubmit_cases (f : JobSubmit) (w : Work) :
    (handleJobSubmit f w).1 = w
      ∨ ∃ size target displaced, f.owner < 4096 ∧ target? f.targetKind f.targetNumber = some target
        ∧ ownerRefusal? w.toRecords f.owner f.colour = none ∧ targetRefusal? w.toRecords target = none
        ∧ RoomFor w.toRecords f.owner displaced ∧ (handleJobSubmit f w).1 = (submit f size target displaced w).1 := by
  unfold handleJobSubmit
  split
  · exact .inl rfl
  rename_i inRange
  have owner : f.owner < 4096 := Nat.not_le.mp fun h => inRange (.inr h)
  split
  · split
    · exact .inl rfl
    split
    · exact .inl rfl
    split
    · exact .inl rfl
    split
    · exact .inl rfl
    · exact .inr ⟨_, _, none, owner, ‹_›, ‹_›, ‹_›, ‹_›, rfl⟩
    · exact .inr ⟨_, _, some _, owner, ‹_›, ‹_›, ‹_›, ‹_›, rfl⟩
  · exact .inl rfl

theorem cancelJob_cases (n account : Nat) (w : Work) :
    (cancelJob n account w).1 = w
      ∨ ∃ j, w.hq.jobs.lookup n = some j ∧ j.owner = account
        ∧ (j.stage = .held ∧ (cancelJob n account w).1 = removeJob n .cancelled 0 w
          ∨ ∃ g, j.stage = .releasing g ∧ (cancelJob n account w).1 =
              completePrinter g.printer (completeAccount j.owner
                (removeJob n .cancelled 1 (leaveFlight g.printer n j.owner (refund j.owner g w))))) := by
  unfold cancelJob
  split
  · exact .inl rfl
  split
  · exact .inl rfl
  rename_i j found
  split
  · exact .inl rfl
  rename_i owner
  split
  · exact .inl rfl
  · exact .inr ⟨j, found, not_not.mp owner, .inl ⟨‹_›, rfl⟩⟩
  · exact .inr ⟨j, found, not_not.mp owner, .inr ⟨_, ‹_›, rfl⟩⟩

theorem expiryFalls_cases (n : Nat) (w : Work) :
    expiryFalls n w = w
      ∨ ∃ j, w.hq.jobs.lookup n = some j ∧ j.stage = .held ∧ j.expiry.reached w.now = true
        ∧ expiryFalls n w = removeJob n .expired 0 w := by
  unfold expiryFalls
  split
  · exact .inl rfl
  rename_i j found
  split
  · rename_i due; exact .inr ⟨j, found, due.1, due.2, rfl⟩
  · exact .inl rfl

/-! ### The release unit -/

theorem badgePrinterRefusal?_eq_none {r : Records} {p : Nat} (h : badgePrinterRefusal? r p = none) :
    p < 96 ∧ ∃ q, r.ptb.printers.lookup p = some q ∧ q.state = .inService := by
  unfold badgePrinterRefusal? at h
  split at h
  · cases h
  rename_i inRange
  split at h
  · cases h
  rename_i q found
  split at h
  · cases h
  · exact ⟨Nat.not_le.mp inRange, q, found, ‹_›⟩
  · cases h

theorem handleBadgePresented_cases (p code : Nat) (w : Work) :
    (handleBadgePresented p code w).1 = w
      ∨ ∃ i a q, w.adir.accounts.lookup i = some a ∧ a.state = .active ∧ p < 96 ∧ w.ptb.printers.lookup p = some q
        ∧ q.state = .inService ∧ draining w.toRecords p = false
        ∧ (a.openVisit.map (draining w.toRecords)).getD false = false
        ∧ (handleBadgePresented p code w).1 = (buildMenu p i (clearTheWay p i w)).1 := by
  unfold handleBadgePresented
  split
  · exact .inl rfl
  split
  · exact .inl rfl
  rename_i b _ a found
  split
  · exact .inl rfl
  · exact .inl rfl
  rename_i active
  split
  · exact .inl rfl
  rename_i serves
  split
  · exact .inl rfl
  rename_i here
  split
  · exact .inl rfl
  rename_i there
  obtain ⟨hp, q, hq, hs⟩ := badgePrinterRefusal?_eq_none serves
  exact .inr ⟨_, a, q, found, active, hp, hq, hs, by simpa using here, by simpa using there, rfl⟩

theorem buildMenu_cases (p i : Nat) (w : Work) :
    (buildMenu p i w).1 = w ∨ (buildMenu p i w).1 = closeVisit p .taken w
      ∨ ∃ a, w.adir.accounts.lookup i = some a
        ∧ (builtVisit w.toRecords p i w.now w.rlu.idleTimeout).menu ≠ []
        ∧ (buildMenu p i w).1 =
          (w.setVisit p (.opened (builtVisit w.toRecords p i w.now w.rlu.idleTimeout))).setAccount i
            { a with openVisit := some p } := by
  unfold buildMenu
  dsimp only
  split
  · exact .inr (.inl rfl)
  rename_i some?
  split
  · exact .inl rfl
  · rename_i a found; exact .inr (.inr ⟨a, found, by simpa using some?, rfl⟩)

/-- The second half of `clearTheWay`: another account's visit at this terminal is closed (R60). -/
def clearHere (p i : Nat) (w : Work) : Work :=
  match visitAccount? w.toRecords p with
  | none => w
  | some a => if a = i then w else closeVisit p .taken w

theorem clearHere_cases (p i : Nat) (w : Work) :
    clearHere p i w = w ∧ (∀ a, visitAccount? w.toRecords p = some a → a = i)
      ∨ (∃ a, visitAccount? w.toRecords p = some a ∧ a ≠ i) ∧ clearHere p i w = closeVisit p .taken w := by
  unfold clearHere
  split
  · exact .inl ⟨rfl, by simp_all⟩
  · split
    · exact .inl ⟨rfl, by simp_all⟩
    · exact .inr ⟨⟨_, ‹_›, ‹_›⟩, rfl⟩

theorem clearTheWay_cases (p i : Nat) (w : Work) :
    clearTheWay p i w = clearHere p i w ∧ (∀ k, openVisit? w.toRecords i = some k → k = p)
      ∨ ∃ k, openVisit? w.toRecords i = some k ∧ k ≠ p ∧ clearTheWay p i w = clearHere p i (closeVisit k .taken w) := by
  unfold clearTheWay
  cases ho : openVisit? w.toRecords i with
  | none => exact .inl ⟨rfl, by simp⟩
  | some k =>
    by_cases same : k = p
    · exact .inl ⟨by simp only [if_pos same]; rfl, by simpa using same⟩
    · exact .inr ⟨k, rfl, same, by simp only [if_neg same]; rfl⟩

theorem refreshIdle_cases (p : Nat) (w : Work) :
    refreshIdle p w = w ∨ ∃ v, w.rlu.visits.lookup p = some (.opened v)
      ∧ refreshIdle p w = w.setVisit p (.opened { v with idle := arm w.now w.rlu.idleTimeout }) := by
  unfold refreshIdle
  split
  · exact .inr ⟨_, ‹_›, rfl⟩
  · exact .inl rfl

@[simp] theorem keyReply_fst (p : Nat) (o : ReplyOutcome) (rest : List Field) (w : Work) :
    (keyReply p o rest w).1 = refreshIdle p w := rfl

theorem handleNext_cases (p : Nat) (w : Work) :
    (handleNext p w).1 = w ∨ ∃ v, w.rlu.visits.lookup p = some (.opened v)
      ∧ (handleNext p w).1 = refreshIdle p (w.setVisit p (.opened { v with cursor := nextCursor v })) := by
  obtain h | ⟨v, found, h⟩ := onVisit_cases p
    (fun v => keyReply p .ok [] (w.setVisit p (.opened { v with cursor := nextCursor v }))) w
  · exact .inl h
  · exact .inr ⟨v, found, congrArg (·.1) h⟩

theorem handlePrevious_cases (p : Nat) (w : Work) :
    (handlePrevious p w).1 = w ∨ ∃ v, w.rlu.visits.lookup p = some (.opened v)
      ∧ (handlePrevious p w).1 = refreshIdle p (w.setVisit p (.opened { v with cursor := previousCursor v })) := by
  obtain h | ⟨v, found, h⟩ := onVisit_cases p
    (fun v => keyReply p .ok [] (w.setVisit p (.opened { v with cursor := previousCursor v }))) w
  · exact .inl h
  · exact .inr ⟨v, found, congrArg (·.1) h⟩

theorem selectJob_cases (p n : Nat) (j : Job) (v : OpenVisit) (w : Work) :
    (selectJob p n j v w).1 = refreshIdle p w
      ∨ (∃ f, failure? w.toRecords p j = some f
        ∧ (selectJob p n j v w).1 = refreshIdle p (w.setVisit p (.opened (leaveMenu w.toRecords p n v))))
      ∨ ∃ x y, failure? w.toRecords p j = none ∧ inService w.toRecords p = true
        ∧ (inFlightList w.toRecords p).length < 4 ∧ askReservation w.toRecords j = .parts x y
        ∧ (selectJob p n j v w).1 = refreshIdle p (grantSelected p n j x y v w) := by
  unfold selectJob
  split
  · exact .inr (.inl ⟨_, ‹_›, rfl⟩)
  rename_i eligible
  split
  · exact .inl rfl
  rename_i serves
  split
  · exact .inl rfl
  rename_i space
  split
  · exact .inl rfl
  · exact .inr (.inr ⟨_, _, eligible, by simpa using serves, Nat.not_le.mp space, ‹_›, rfl⟩)

theorem handleSelect_cases (p : Nat) (w : Work) :
    (handleSelect p w).1 = w ∨ (handleSelect p w).1 = refreshIdle p w
      ∨ ∃ v n j, w.rlu.visits.lookup p = some (.opened v) ∧ v.menu[v.cursor]? = some n ∧ w.hq.jobs.lookup n = some j
        ∧ (handleSelect p w).1 = (selectJob p n j v w).1 := by
  obtain h | ⟨v, found, h⟩ := onVisit_cases p (fun v =>
    match v.menu[v.cursor]? with
    | none => keyReply p .noJobs [] w
    | some n =>
      match w.hq.jobs.lookup n with
      | none => keyReply p .noJobs [] w
      | some j => selectJob p n j v w) w
  · exact .inl h
  · have h' : (handleSelect p w).1 = _ := congrArg (·.1) h
    refine .inr ?_
    rw [h']
    split
    · exact .inl rfl
    split
    · exact .inl rfl
    · exact .inr ⟨v, _, _, found, ‹_›, ‹_›, rfl⟩

theorem handleSelectAll_cases (p : Nat) (w : Work) :
    (handleSelectAll p w).1 = w ∨ (handleSelectAll p w).1 = refreshIdle p w
      ∨ ∃ v, w.rlu.visits.lookup p = some (.opened v) ∧ inService w.toRecords p = true
        ∧ (eligibleJobs w.toRecords p v.account).take 32 ≠ []
        ∧ (handleSelectAll p w).1 = w.setVisit p (.draining
          { account := v.account, jobs := (eligibleJobs w.toRecords p v.account).take 32, granted := 0, dropped := 0 }) := by
  obtain h | ⟨v, found, h⟩ := onVisit_cases p (fun v =>
    let snapshot := (eligibleJobs w.toRecords p v.account).take Config.drainSize
    if !inService w.toRecords p then keyReply p .service [] w
    else if snapshot.isEmpty then keyReply p .noJobs [] w
    else
      keyReply p .ok [listField (fun n => [u16 n]) snapshot]
        (w.setVisit p (.draining { account := v.account, jobs := snapshot, granted := 0, dropped := 0 }))) w
  · exact .inl h
  · have h' : (handleSelectAll p w).1 = _ := congrArg (·.1) h
    refine .inr ?_
    rw [h']
    dsimp only
    split
    · exact .inl rfl
    rename_i serves
    split
    · exact .inl rfl
    rename_i some?
    refine .inr ⟨v, found, by simpa using serves, by simpa [Config.drainSize] using some?, ?_⟩
    simp [refreshIdle, Config.drainSize]

theorem handleDelete_cases (p : Nat) (w : Work) :
    (handleDelete p w).1 = w ∨ (handleDelete p w).1 = refreshIdle p w
      ∨ ∃ v n, w.rlu.visits.lookup p = some (.opened v) ∧ v.menu[v.cursor]? = some n
        ∧ (handleDelete p w).1 = refreshIdle p (cancelJob n v.account w).1 := by
  obtain h | ⟨v, found, h⟩ := onVisit_cases p (fun v =>
    match v.menu[v.cursor]? with
    | none => keyReply p .noJobs [] w
    | some n =>
      let r := cancelJob n v.account w
      keyReply p r.2.outcome (if r.2.outcome = .ok then [u16 n] else []) r.1) w
  · exact .inl h
  · have h' : (handleDelete p w).1 = _ := congrArg (·.1) h
    refine .inr ?_
    rw [h']
    dsimp only
    split
    · exact .inl rfl
    · exact .inr ⟨v, _, found, ‹_›, rfl⟩

theorem handleDone_cases (p : Nat) (w : Work) :
    (handleDone p w).1 = w ∨ (handleDone p w).1 = closeVisit p .done w := by
  unfold handleDone
  split
  · exact .inl rfl
  split
  · exact .inl rfl
  split
  · exact .inl rfl
  · exact .inr rfl
  · rename_i v found
    right
    have closed : (closeVisit p .done w).rlu.visits.lookup p = none := by
      simp only [closeVisit, found, Work.raise_toRecords, Work.updateAccount]
      split <;> simp [Table.lookup_remove]
    simp [refreshIdle, closed]

theorem idleFalls_cases (p : Nat) (w : Work) :
    idleFalls p w = w ∨ ∃ v, w.rlu.visits.lookup p = some (.opened v) ∧ idleFalls p w = closeVisit p .timeout w := by
  unfold idleFalls
  split
  · split
    · exact .inr ⟨_, ‹_›, rfl⟩
    · exact .inl rfl
  · exact .inl rfl

theorem drainHead_cases (p n : Nat) (rest : List Nat) (d : DrainVisit) (w : Work) :
    drainHead p n rest d w = leaveDrain p { d with jobs := rest, dropped := d.dropped + 1 } w
      ∨ ∃ j x y, w.hq.jobs.lookup n = some j ∧ failure? w.toRecords p j = none ∧ askReservation w.toRecords j = .parts x y
        ∧ drainHead p n rest d w = leaveDrain p { d with jobs := rest, granted := d.granted + 1 }
          (raiseGrant p n j x y (grantJob p n j x y (reserve j.owner x y w))) := by
  unfold drainHead
  dsimp only
  split
  · exact .inl rfl
  split
  · exact .inl rfl
  rename_i eligible
  split
  · exact .inl rfl
  · exact .inr ⟨_, _, _, ‹_›, not_not.mp eligible, ‹_›, rfl⟩

theorem drainGrants_cases (p : Nat) (w : Work) :
    drainGrants p w = w ∨ ∃ d n rest, w.rlu.visits.lookup p = some (.draining d) ∧ d.jobs = n :: rest
      ∧ inService w.toRecords p = true ∧ (inFlightList w.toRecords p).length < 4
      ∧ drainGrants p w = drainHead p n rest d w := by
  unfold drainGrants
  split
  · split
    · exact .inl rfl
    · split
      · rename_i may; exact .inr ⟨_, _, _, ‹_›, ‹_›, may.1, may.2, rfl⟩
      · exact .inl rfl
  · exact .inl rfl

theorem handleSpoolAccepted_cases (n number : Nat) (w : Work) :
    (handleSpoolAccepted n number w).1 = w
      ∨ ∃ j g, w.hq.jobs.lookup n = some j ∧ j.stage = .releasing g
        ∧ (handleSpoolAccepted n number w).1 =
          setWindow g.printer n (arm w.now w.rlu.completionWindow) (w.setJob n { j with stage := .printing g w.now }) := by
  obtain h | ⟨j, g, found, granted, h⟩ := onGrant_cases n number (fun j g =>
    match j.stage with
    | .printing _ accepted => (w, answer .state [u32 accepted])
    | _ =>
      let d := arm w.now w.rlu.completionWindow
      (setWindow g.printer n d (w.setJob n { j with stage := .printing g w.now })).ok [deadlineField d]) w
  · exact .inl h
  · have h' : (handleSpoolAccepted n number w).1 = _ := congrArg (·.1) h
    rw [h']
    cases hs : j.stage with
    | held => simp [hs, Stage.grant?] at granted
    | printing => exact .inl rfl
    | releasing g' =>
      obtain rfl : g' = g := by simpa [hs, Stage.grant?] using granted
      exact .inr ⟨j, g', found, hs, rfl⟩

theorem handleSpoolFailed_cases (n number : Nat) (w : Work) :
    (handleSpoolFailed n number w).1 = w
      ∨ ∃ j g, w.hq.jobs.lookup n = some j ∧ j.stage = .releasing g
        ∧ (handleSpoolFailed n number w).1 = failRelease n j g w := by
  obtain h | ⟨j, g, found, granted, h⟩ := onGrant_cases n number (fun j g =>
    match j.stage with
    | .printing _ _ => w.refuse .state
    | _ =>
      let reason := returnReason w.toRecords true { j with stage := .held, attempts := j.attempts + 1 }
      (failRelease n j g w).ok
        [u8 (j.attempts + 1), if reason.isNone then u8 0 else .absent, opt (fun r => u8 r.code) reason]) w
  · exact .inl h
  · have h' : (handleSpoolFailed n number w).1 = _ := congrArg (·.1) h
    rw [h']
    cases hs : j.stage with
    | held => simp [hs, Stage.grant?] at granted
    | printing => exact .inl rfl
    | releasing g' =>
      obtain rfl : g' = g := by simpa [hs, Stage.grant?] using granted
      exact .inr ⟨j, g', found, hs, rfl⟩

theorem handlePagesDone_cases (f : PagesDone) (w : Work) :
    (handlePagesDone f w).1 = w
      ∨ ∃ j g, w.hq.jobs.lookup f.job = some j ∧ j.stage.grant? = some g
        ∧ (handlePagesDone f w).1 = settleJob f.job j g (reportedPages f) w := by
  obtain h | ⟨j, g, found, granted, h⟩ := onGrant_cases f.job f.grant (fun j g =>
    let a := charge w.qtu f.mono f.colour j.size
    (settleJob f.job j g (reportedPages f) w).ok [u32 a, u32 (settledParts g a).1, u32 (settledParts g a).2]) w
  · exact .inl h
  · refine .inr ⟨j, g, found, granted, ?_⟩
    have h' : (handlePagesDone f w).1 = _ := congrArg (·.1) h
    rw [h', Work.ok_fst]

theorem grantWindowFalls_cases (n : Nat) (w : Work) :
    grantWindowFalls n w = w ∨ ∃ j g, w.hq.jobs.lookup n = some j ∧ j.stage = .releasing g
      ∧ reached? (window? w.toRecords g.printer n) w.now = true ∧ grantWindowFalls n w = failRelease n j g w := by
  unfold grantWindowFalls
  split
  · exact .inl rfl
  split
  · split
    · exact .inr ⟨_, _, ‹_›, ‹_›, ‹_›, rfl⟩
    · exact .inl rfl
  · exact .inl rfl

theorem completionWindowFalls_cases (n : Nat) (w : Work) :
    completionWindowFalls n w = w ∨ ∃ j g accepted, w.hq.jobs.lookup n = some j ∧ j.stage = .printing g accepted
      ∧ reached? (window? w.toRecords g.printer n) w.now = true
      ∧ completionWindowFalls n w = settleJob n j g (declaredPages j) w := by
  unfold completionWindowFalls
  split
  · exact .inl rfl
  split
  · split
    · exact .inr ⟨_, _, _, ‹_›, ‹_›, ‹_›, rfl⟩
    · exact .inl rfl
  · exact .inl rfl

/-! ### Printers -/

theorem handlePrinterAdd_cases (f : PrinterAdd) (w : Work) :
    (handlePrinterAdd f w).1 = w
      ∨ f.printer < 96 ∧ w.ptb.printers.lookup f.printer = none
        ∧ (handlePrinterAdd f w).1 = raisePrinterState f.printer 0 (w.setPrinter f.printer (addedPrinter f)) := by
  unfold handlePrinterAdd
  split
  · exact .inl rfl
  split
  · exact .inl rfl
  rename_i inRange
  split
  · exact .inl rfl
  split
  · exact .inl rfl
  split
  · exact .inl rfl
  split
  · exact .inl rfl
  · exact .inr ⟨Nat.not_le.mp inRange, ‹_›, rfl⟩

theorem handlePrinterSet_cases (f : PrinterSet) (w : Work) :
    (handlePrinterSet f w).1 = w
      ∨ ∃ p, w.ptb.printers.lookup f.printer = some p ∧ Runs p ∧ printerSetRefusal? w.toRecords f p = none
        ∧ (handlePrinterSet f w).1 = w.setPrinter f.printer (setPrinterFields f p) := by
  unfold handlePrinterSet
  split
  · exact .inl rfl
  split
  · exact .inl rfl
  split
  · exact .inl rfl
  rename_i p found
  split
  · exact .inl rfl
  rename_i runs
  split
  · exact .inl rfl
  · exact .inr ⟨p, found, runs, ‹_›, rfl⟩

theorem handleStatusReport_cases (i conditions : Nat) (readings : List Nat) (w : Work) :
    (handleStatusReport i conditions readings w).1 = w
      ∨ ∃ live l p, i < 96 ∧ w.ptb.printers.lookup i = some p
        ∧ (handleStatusReport i conditions readings w).1 = (takeReport i live l p w).1 := by
  unfold handleStatusReport
  split
  · exact .inl rfl
  split
  · exact .inl rfl
  rename_i inRange
  split
  · exact .inl rfl
  split
  · exact .inl rfl
  · exact .inr ⟨_, _, _, Nat.not_le.mp inRange, ‹_›, rfl⟩

theorem handleConditionsClear_cases (i conditions : Nat) (w : Work) :
    (handleConditionsClear i conditions w).1 = w
      ∨ ∃ p latched, w.ptb.printers.lookup i = some p
        ∧ (handleConditionsClear i conditions w).1 = w.setPrinter i { p with latched := latched } := by
  unfold handleConditionsClear
  split
  · exact .inl rfl
  split
  · exact .inl rfl
  split
  · exact .inl rfl
  · exact .inr ⟨_, _, ‹_›, rfl⟩

theorem handleServiceWithdraw_cases (i : Nat) (w : Work) :
    (handleServiceWithdraw i w).1 = w
      ∨ ∃ p p', w.ptb.printers.lookup i = some p ∧ withdrawnPrinter? w.now p = some p'
        ∧ (handleServiceWithdraw i w).1 = finishChange i p p' w := by
  unfold handleServiceWithdraw
  split
  · exact .inl rfl
  split
  · exact .inl rfl
  split
  · exact .inl rfl
  · exact .inr ⟨_, _, ‹_›, ‹_›, rfl⟩

theorem handleServiceReturn_cases (i : Nat) (w : Work) :
    (handleServiceReturn i w).1 = w
      ∨ ∃ p cause, w.ptb.printers.lookup i = some p ∧ p.state = .outOfService cause
        ∧ (handleServiceReturn i w).1 = finishChange i p (returnedPrinter w.now w.ptb p) w := by
  unfold handleServiceReturn
  split
  · exact .inl rfl
  split
  · exact .inl rfl
  split
  · exact .inl rfl
  · exact .inr ⟨_, _, ‹_›, ‹_›, rfl⟩
  · exact .inl rfl

theorem verdict_cases (i : Nat) (c : Condition) (p : Printer) (w : Work) :
    verdict i c p w = finishChange i p (toOutOfService (.fault c) p) w
      ∨ verdict i c p w =
        finishChange i p (toRestarting w.now w.ptb p) (raiseRestartRequest i c (toRestarting w.now w.ptb p) w) := by
  unfold verdict
  split
  · exact .inr rfl
  · exact .inl rfl

theorem qualificationFalls_cases (i : Nat) (c : Condition) (w : Work) :
    qualificationFalls i c w = w
      ∨ ∃ p, w.ptb.printers.lookup i = some p ∧ p.state = .qualifying ∧ qualificationFalls i c w = verdict i c p w := by
  unfold qualificationFalls
  split
  · exact .inl rfl
  split
  · rename_i due; exact .inr ⟨_, ‹_›, due.1, rfl⟩
  · exact .inl rfl

theorem restartFalls_cases (i : Nat) (w : Work) :
    restartFalls i w = w
      ∨ ∃ p, w.ptb.printers.lookup i = some p ∧ p.state = .restarting
        ∧ restartFalls i w = finishChange i p (armHeartbeat w.now (toOutOfService .restartFailed p)) w := by
  unfold restartFalls
  split
  · exact .inl rfl
  split
  · rename_i due; exact .inr ⟨_, ‹_›, due.1, rfl⟩
  · exact .inl rfl

theorem restartCreditFalls_cases (i : Nat) (w : Work) :
    restartCreditFalls i w = w
      ∨ ∃ p, w.ptb.printers.lookup i = some p
        ∧ restartCreditFalls i w = w.setPrinter i { p with restartUsed := false, restartCredit := none } := by
  unfold restartCreditFalls
  split
  · exact .inl rfl
  split
  · exact .inr ⟨_, ‹_›, rfl⟩
  · exact .inl rfl

theorem heartbeatFalls_cases (i : Nat) (w : Work) :
    heartbeatFalls i w = w
      ∨ ∃ p, w.ptb.printers.lookup i = some p ∧ p.heartbeat ≠ none
        ∧ heartbeatFalls i w = finishChange i p (silentPrinter w.now w.ptb p) w := by
  unfold heartbeatFalls
  split
  · exact .inl rfl
  split
  · rename_i p found due
    refine .inr ⟨p, found, ?_, rfl⟩
    rintro none
    simp [none, Printer.due?] at due
  · exact .inl rfl

theorem absenceFalls_cases (i : Nat) (w : Work) :
    absenceFalls i w = w
      ∨ ∃ p, w.ptb.printers.lookup i = some p ∧ p.absence ≠ none
        ∧ (p.state = .outOfService .byRequest ∧ absenceFalls i w = w.setPrinter i { p with absence := none }
          ∨ p.state ≠ .outOfService .byRequest
            ∧ absenceFalls i w = endHandling (arise i .absence (w.setPrinter i { p with absence := none }))) := by
  unfold absenceFalls
  split
  · exact .inl rfl
  split
  · rename_i p found due
    refine .inr ⟨p, found, ?_, ?_⟩
    · rintro none
      simp [none, Printer.due?] at due
    · split
      · exact .inl ⟨‹_›, rfl⟩
      · exact .inr ⟨‹_›, rfl⟩
  · exact .inl rfl

theorem handlePrinterRetire_cases (i : Nat) (w : Work) :
    (handlePrinterRetire i w).1 = w
      ∨ ∃ p, i < 96 ∧ w.ptb.printers.lookup i = some p ∧ Runs p
        ∧ (handlePrinterRetire i w).1 = (retirePrinter i p w).1 := by
  unfold handlePrinterRetire
  split
  · exact .inl rfl
  rename_i inRange
  split
  · exact .inl rfl
  rename_i p found
  split
  · exact .inl rfl
  · exact .inr ⟨p, Nat.not_le.mp inRange, found, ‹_›, rfl⟩

theorem handlePrinterReseat_cases (i : Nat) (w : Work) :
    (handlePrinterReseat i w).1 = w
      ∨ ∃ p, i < 96 ∧ w.ptb.printers.lookup i = some p ∧ Runs p ∧ (handlePrinterReseat i w).1 = (reseat i p w).1 := by
  unfold handlePrinterReseat
  split
  · exact .inl rfl
  rename_i inRange
  split
  · exact .inl rfl
  rename_i p found
  split
  · exact .inl rfl
  · exact .inr ⟨p, Nat.not_le.mp inRange, found, ‹_›, rfl⟩

/-! ### Cartridges and stock -/

theorem handleSupplyDefine_cases (i colour modelGroup : Nat) (f : SupplySettings) (w : Work) :
    (handleSupplyDefine i colour modelGroup f w).1 = w
      ∨ ∃ letter, i < 32 ∧ w.spu.types.lookup i = none
        ∧ (handleSupplyDefine i colour modelGroup f w).1 =
          orderPoint (w.setType i (setTypeFields f (definedType letter modelGroup))) := by
  unfold handleSupplyDefine
  split
  · exact .inl rfl
  rename_i inRange
  split
  · exact .inl rfl
  split
  · exact .inl rfl
  split
  · exact .inl rfl
  · exact .inr ⟨_, Nat.not_le.mp inRange, ‹_›, rfl⟩

theorem handleSupplySet_cases (i : Nat) (f : SupplySettings) (w : Work) :
    (handleSupplySet i f w).1 = w
      ∨ ∃ t, w.spu.types.lookup i = some t ∧ (handleSupplySet i f w).1 = orderPoint (w.setType i (setTypeFields f t)) := by
  obtain h | ⟨t, -, found, -, h⟩ := onType_cases i (fun t =>
    let t' := setTypeFields f t
    let w1 := orderPoint (w.setType i t')
    w1.ok (typeSettings t' ++ orderNumbers w1.toRecords i t')) w
  · exact .inl h
  · exact .inr ⟨t, found, congrArg (·.1) h⟩

theorem handleSupplyRetire_cases (i : Nat) (w : Work) :
    (handleSupplyRetire i w).1 = w
      ∨ ∃ t, w.spu.types.lookup i = some t ∧ slotsOf w.toRecords i (fun _ => true) = 0 ∧ t.reserved = 0
        ∧ (handleSupplyRetire i w).1 = retiredNotice 3 i w.now none (some t.onHand) (w.dropType i) := by
  obtain h | ⟨t, -, found, -, h⟩ := onType_cases i (fun t =>
    if 0 < slotsOf w.toRecords i (fun _ => true) ∨ 0 < t.reserved ∨ 0 < t.onOrder then w.refuse .state
    else (retiredNotice 3 i w.now none (some t.onHand) (w.dropType i)).ok [u16 t.onHand]) w
  · exact .inl h
  · have h' : (handleSupplyRetire i w).1 = _ := congrArg (·.1) h
    rw [h']
    split
    · exact .inl rfl
    · exact .inr ⟨t, found, by omega, by omega, rfl⟩

theorem handleOrderPlaced_cases (i quantity : Nat) (w : Work) :
    (handleOrderPlaced i quantity w).1 = w
      ∨ ∃ t, w.spu.types.lookup i = some t
        ∧ (handleOrderPlaced i quantity w).1 = orderPoint (w.setType i (orderedType w.now quantity t)) := by
  obtain h | ⟨t, -, found, -, h⟩ := onType_cases i (fun t =>
    if !quantityInRange quantity then w.refuse .range
    else
      let t' := orderedType w.now quantity t
      let w1 := orderPoint (w.setType i t')
      w1.ok ([u32 (t'.onOrder - t.onOrder), u16 t'.onOrder, opt deadlineField t'.overdue] ++ orderNumbers w1.toRecords i t')) w
  · exact .inl h
  · have h' : (handleOrderPlaced i quantity w).1 = _ := congrArg (·.1) h
    rw [h']
    dsimp only
    split
    · exact .inl rfl
    · exact .inr ⟨t, found, rfl⟩

theorem handleDeliveryReceived_cases (i quantity : Nat) (w : Work) :
    (handleDeliveryReceived i quantity w).1 = w
      ∨ ∃ t, w.spu.types.lookup i = some t
        ∧ (handleDeliveryReceived i quantity w).1 = endHandling (w.setType i (deliveredType quantity t)) := by
  obtain h | ⟨t, -, found, -, h⟩ := onType_cases i (fun t =>
    if !quantityInRange quantity then w.refuse .range
    else
      let t' := deliveredType quantity t
      let w1 := w.setType i t'
      let w2 := endHandling w1
      let t2 := typeAfter w2.toRecords i t'
      w2.ok ([u32 (t'.onHand - t.onHand), u16 t2.onHand, u16 t2.reserved, u16 t2.onOrder,
        u32 (waitingTickets w1.toRecords - waitingTickets w2.toRecords)] ++ orderNumbers w2.toRecords i t2)) w
  · exact .inl h
  · have h' : (handleDeliveryReceived i quantity w).1 = _ := congrArg (·.1) h
    rw [h']
    dsimp only
    split
    · exact .inl rfl
    · exact .inr ⟨t, found, rfl⟩

theorem handleStockAdjust_cases (i count : Nat) (w : Work) :
    (handleStockAdjust i count w).1 = w
      ∨ ∃ t, w.spu.types.lookup i = some t
        ∧ (handleStockAdjust i count w).1 =
          endHandling (withdrawUnits i (t.reserved - count) (w.setType i { t with onHand := count })) := by
  obtain h | ⟨t, -, found, -, h⟩ := onType_cases i (fun t =>
    if Config.maxStock < count then w.refuse .range
    else
      let w1 := withdrawUnits i (t.reserved - count) (w.setType i { t with onHand := count })
      let w2 := endHandling w1
      let t2 := typeAfter w2.toRecords i t
      w2.ok ([u16 t.onHand, u16 t2.onHand, u32 (t.reserved - count),
        u32 (waitingTickets w1.toRecords - waitingTickets w2.toRecords)] ++ orderNumbers w2.toRecords i t2)) w
  · exact .inl h
  · have h' : (handleStockAdjust i count w).1 = _ := congrArg (·.1) h
    rw [h']
    dsimp only
    split
    · exact .inl rfl
    · exact .inr ⟨t, found, rfl⟩

theorem overdueFalls_cases (i : Nat) (w : Work) :
    overdueFalls i w = w
      ∨ ∃ t raised, w.spu.types.lookup i = some t
        ∧ (overdueFalls i w).toRecords = (w.setType i { t with overdue := none, overdueRaised := raised }).toRecords := by
  unfold overdueFalls
  split
  · exact .inl rfl
  rename_i t found
  split
  · exact .inl rfl
  split
  · split
    · exact .inr ⟨t, _, found, rfl⟩
    · exact .inr ⟨t, _, found, rfl⟩
  · exact .inl rfl

theorem handleCartridgeInstall_cases (p letter i : Nat) (w : Work) :
    (handleCartridgeInstall p letter i w).1 = w
      ∨ ∃ l q t, p < 96 ∧ i < 32 ∧ w.ptb.printers.lookup p = some q ∧ w.spu.types.lookup i = some t
        ∧ (handleCartridgeInstall p letter i w).1 = (install p l i t w).1 := by
  unfold handleCartridgeInstall
  split
  · exact .inl rfl
  rename_i l _
  split
  · exact .inl rfl
  rename_i inRange
  split
  · exact .inl rfl
  rename_i q found
  split
  · exact .inl rfl
  split
  · exact .inl rfl
  obtain h | ⟨t, hi, ht, -, h⟩ := onType_cases i (fun t =>
    if t.colour ≠ l ∨ t.modelGroup ≠ q.modelGroup then w.refuse .mismatch else install p l i t w) w
  · exact .inl h
  · rw [h]
    split
    · exact .inl rfl
    · exact .inr ⟨l, q, t, Nat.not_le.mp fun h => inRange (.inl h), hi, found, ht, rfl⟩

/-! ### Callouts -/

theorem ticket?_mem {r : Records} {n : Nat} {t : Ticket} (h : ticket? r n = some t) : t ∈ r.cou.tickets ∧ t.number = n :=
  ⟨List.mem_of_find?_eq_some h, by simpa using List.find?_some h⟩

theorem handleCalloutAck_cases (n : Nat) (w : Work) :
    (handleCalloutAck n w).1 = w
      ∨ ∃ t, ticket? w.toRecords n = some t ∧ t.state = .dispatched
        ∧ (handleCalloutAck n w).1 =
          putTicket { t with state := .acknowledged, deadline := some (arm w.now w.cou.workTime) } w := by
  unfold handleCalloutAck
  split
  · exact .inl rfl
  split
  · exact .inl rfl
  split
  · exact .inl rfl
  · rename_i state; exact .inr ⟨_, ‹_›, not_not.mp state, rfl⟩

theorem handleCalloutClose_cases (n : Nat) (w : Work) :
    (handleCalloutClose n w).1 = w
      ∨ ∃ t, ticket? w.toRecords n = some t ∧ (handleCalloutClose n w).1 = endHandling (resolveTicket .closed w t) := by
  unfold handleCalloutClose
  split
  · exact .inl rfl
  split
  · exact .inl rfl
  · exact .inr ⟨_, ‹_›, rfl⟩

theorem escalate_cases (state : TicketState) (n : Nat) (w : Work) :
    escalate state n w = w
      ∨ ∃ t, ticket? w.toRecords n = some t ∧ t.state = state
        ∧ escalate state n w = evaluateAlarm (dispatch (min (t.level + 1) 3) t w) := by
  unfold escalate
  split
  · exact .inl rfl
  split
  · rename_i due; exact .inr ⟨_, ‹_›, due.1, rfl⟩
  · exact .inl rfl

/-! ### The clock -/

theorem handleClockSet_cases (wall : Nat) (countdown : Option Nat) (w : Work) :
    (handleClockSet wall countdown w).1 = w
      ∨ ∃ rolls, (handleClockSet wall countdown w).1 = (setClock wall rolls countdown w).1 := by
  unfold handleClockSet
  split
  · exact .inl rfl
  split
  · exact .inr ⟨_, rfl⟩
  split
  · exact .inl rfl
  · exact .inr ⟨_, rfl⟩

theorem rollFalls_cases (w : Work) :
    rollFalls w = w ∨ ∃ d roll, w.fck.roll = some d ∧ d.reached w.now = true
      ∧ rollFalls w = dayRoll { w with fck := { w.fck with roll := roll } } := by
  unfold rollFalls
  split
  · exact .inl rfl
  split
  · exact .inr ⟨_, _, ‹_›, ‹_›, rfl⟩
  · exact .inl rfl

end Sys2Proof.Laws
end

section
/-! PROOF. What every handling keeps of the settings, the clock, the tables, the balances and the counts, case by case of
`Cases`, and that every step keeps it. -/

namespace Sys2Proof.Laws

open Sys2Proof.Machine Sys2Proof.Safety

/-- What every command but a cold start and the passing of a second keeps between the records before and after it. -/
structure Stepped (a b : Records) : Prop where
  uptime : b.fck.uptime = a.fck.uptime
  settings : SettingsInRange a → SettingsInRange b
  clock : ClockSound a → ClockSound b
  tables : TablesSound a → TablesSound b
  balances : BalancesBounded a → BalancesBounded b
  counts : CountsBounded a → CountsBounded b

theorem Rolled.stepped {a b : Records} (h : Rolled a b) : Stepped a b where
  uptime := by obtain ⟨_, _, h⟩ := h.clock; rw [h]
  settings := SettingsInRange.of_settingsOf h.settings
  clock := h.sound
  tables := h.tables
  balances := h.balances
  counts := h.counts

theorem Kept.stepped {a b : Records} (h : Kept a b) : Stepped a b := h.rolled.stepped

theorem Stepped.refl (a : Records) : Stepped a a := (Kept.refl a).stepped

theorem Stepped.trans {a b c : Records} (h : Stepped a b) (k : Stepped b c) : Stepped a c where
  uptime := k.uptime.trans h.uptime
  settings := k.settings ∘ h.settings
  clock := k.clock ∘ h.clock
  tables := k.tables ∘ h.tables
  balances := k.balances ∘ h.balances
  counts := k.counts ∘ h.counts

theorem Stepped.foldl {β : Type} {f : Work → β → Work} (h : ∀ w x, Stepped w.toRecords (f w x).toRecords) (l : List β)
    (w : Work) : Stepped w.toRecords (l.foldl f w).toRecords := by
  induction l generalizing w with
  | nil => exact .refl _
  | cons x rest ih => exact (h w x).trans (ih _)

/-- The work as it was is kept. -/
theorem Kept.of_eq {a b : Work} (h : a = b) : Kept b.toRecords a.toRecords := h ▸ .refl _

variable {w : Work}

/-! ### Accounts, badges and pools -/

theorem kept_changeMembers (f : Nat → Nat) (pool : Option Nat) (w : Work) :
    Kept w.toRecords (changeMembers f pool w).toRecords := by
  cases pool with
  | none => exact .refl _
  | some p => exact kept_updatePool fun _ h => h

theorem kept_changePool (old new : Option Nat) (w : Work) : Kept w.toRecords (changePool old new w).toRecords := by
  unfold changePool
  split
  · exact .refl _
  · exact (kept_changeMembers _ _ _).trans (kept_changeMembers _ _ _)

theorem clamp_le {low high v : Nat} (h : low ≤ high) : clamp low high v ≤ high := by
  unfold clamp; omega

theorem le_clamp (low high v : Nat) : low ≤ clamp low high v := by
  unfold clamp; omega

/-- A selected setting stands in its range where the stored one does. -/
theorem selected_bounds {low high stored : Nat} (choice : Option Nat) (h : low ≤ high) (hs : low ≤ stored ∧ stored ≤ high) :
    low ≤ selected low high stored choice ∧ selected low high stored choice ≤ high := by
  cases choice with
  | none => exact hs
  | some v => exact ⟨le_clamp low high v, clamp_le h⟩

theorem selected_le {high stored : Nat} (choice : Option Nat) (hs : stored ≤ high) : selected 0 high stored choice ≤ high :=
  (selected_bounds choice (Nat.zero_le _) ⟨Nat.zero_le _, hs⟩).2

theorem openedAccount_bounded (f : AccountOpen) : AccountBounded (openedAccount f) := by
  have := clamp_le (low := 0) (high := 1000000) (v := f.allotment) (by decide)
  simp only [AccountBounded, openedAccount, Config.maxAllotment]
  omega

theorem kept_handleAccountOpen (f : AccountOpen) (w : Work) :
    Kept w.toRecords (handleAccountOpen f w).1.toRecords := by
  obtain h | ⟨hi, -, -, h⟩ := handleAccountOpen_cases f w
  · exact .of_eq h
  · rw [h]
    exact ((kept_setAccount (fun _ => hi) fun _ => openedAccount_bounded f).trans (kept_changeMembers _ _ _)).trans
      (kept_evaluateWarning _ _)

theorem kept_handleAccountSet (f : AccountSet) (w : Work) : Kept w.toRecords (handleAccountSet f w).1.toRecords := by
  obtain h | ⟨a, found, -, -, h⟩ := handleAccountSet_cases f w
  · exact .of_eq h
  · have written : Kept w.toRecords (w.setAccount f.account (setAccountFields f a)).toRecords := by
      refine kept_setAccount (fun k => (k.accounts.bounds found).2) fun k => ?_
      obtain ⟨low, high, allotment⟩ := k.accounts _ (Table.mem_of_lookup found)
      exact ⟨low, high, selected_le _ allotment⟩
    have moved := written.trans (kept_changePool a.pool (f.pool.getD a.pool) _)
    obtain h | h := h <;> rw [h]
    · exact moved
    · exact moved.trans (kept_evaluateWarning _ _)

theorem kept_handleAccountSuspend (i : Nat) (w : Work) : Kept w.toRecords (handleAccountSuspend i w).1.toRecords := by
  obtain h | ⟨a, found, -, h⟩ := handleAccountSuspend_cases i w
  · exact .of_eq h
  · rw [h]
    refine Kept.trans ?_ (kept_closeAccountVisit _ _ _)
    exact kept_setAccount_same found rfl rfl

theorem kept_handleAccountResume (i : Nat) (w : Work) : Kept w.toRecords (handleAccountResume i w).1.toRecords := by
  obtain h | ⟨a, found, -, h⟩ := handleAccountResume_cases i w
  · exact .of_eq h
  · rw [h]; exact kept_setAccount_same found rfl rfl

/-- A code that is not bound joins the directory once. -/
theorem nodup_codes_append {r : Records} {code : Nat} (h : (r.adir.badges.map (·.code)).Nodup) (i : Nat)
    (unbound : boundTo? r code = none) : ((r.adir.badges ++ [(⟨code, i⟩ : Binding)]).map (·.code)).Nodup := by
  have fresh : code ∉ r.adir.badges.map (·.code) := by
    simpa [boundTo?, List.find?_eq_none] using unbound
  rw [List.map_append, List.map_singleton, ← List.concat_eq_append]
  exact h.concat fresh

theorem kept_handleBadgeBind (code i : Nat) (w : Work) : Kept w.toRecords (handleBadgeBind code i w).1.toRecords := by
  obtain h | ⟨a, -, found, -, unbound, -, -, h⟩ := handleBadgeBind_cases code i w
  · exact .of_eq h
  · rw [h]
    exact (kept_setBadges fun k => nodup_codes_append k.badges i unbound).trans
      (kept_setAccount_same (a := a) found rfl rfl)

theorem kept_handleBadgeUnbind (code i : Nat) (w : Work) : Kept w.toRecords (handleBadgeUnbind code i w).1.toRecords := by
  obtain h | ⟨-, -, h⟩ := handleBadgeUnbind_cases code i w
  · exact .of_eq h
  · rw [h]; exact (kept_filterBadges w _).trans (kept_updateAccount fun _ => ⟨rfl, rfl⟩)

theorem kept_handlePoolOpen (i n : Nat) (w : Work) : Kept w.toRecords (handlePoolOpen i n w).1.toRecords := by
  obtain h | ⟨hi, -, h⟩ := handlePoolOpen_cases i n w
  · exact .of_eq h
  · rw [h]
    refine kept_setPool (fun _ => hi) fun _ => ?_
    have : min n 1000000 ≤ 1000000 := Nat.min_le_right _ _
    simp only [PoolBounded, Sys2Proof.Pools.openedPool]
    omega

theorem kept_handlePoolSet (i n : Nat) (w : Work) : Kept w.toRecords (handlePoolSet i n w).1.toRecords := by
  obtain h | ⟨p, found, h⟩ := handlePoolSet_cases i n w
  · exact .of_eq h
  · rw [h]; exact kept_setPool_of_lookup found fun k => ⟨k.1, k.2.1, Nat.min_le_right _ _⟩

theorem kept_handleAccountCredit (i : Nat) (amount : Int) (w : Work) :
    Kept w.toRecords (handleAccountCredit i amount w).1.toRecords := by
  obtain h | ⟨a, found, h⟩ := handleAccountCredit_cases i amount w
  · exact .of_eq h
  · rw [h]
    refine Kept.trans ?_ (kept_evaluateWarning _ _)
    refine kept_setAccount (fun k => (k.accounts.bounds found).2) fun k => ?_
    exact ⟨(credited_bounded _ _).1, (credited_bounded _ _).2, (k.accounts _ (Table.mem_of_lookup found)).2.2⟩

theorem kept_handlePoolCredit (i : Nat) (amount : Int) (w : Work) :
    Kept w.toRecords (handlePoolCredit i amount w).1.toRecords := by
  obtain h | ⟨p, found, h⟩ := handlePoolCredit_cases i amount w
  · exact .of_eq h
  · rw [h]
    exact kept_setPool_of_lookup found fun k => ⟨(credited_bounded _ _).1, (credited_bounded _ _).2, k.2.2⟩

theorem kept_handlePeakClear (i : Nat) (w : Work) : Kept w.toRecords (handlePeakClear i w).1.toRecords := by
  obtain h | ⟨a, found, h⟩ := handlePeakClear_cases i w
  · exact .of_eq h
  · rw [h]; exact kept_setAccount_same found rfl rfl

theorem kept_removeHeld (jobs : List Nat) (w : Work) : Kept w.toRecords (removeHeld jobs w).toRecords :=
  Kept.foldl (fun w n => kept_removeJob n .ownerRetired 0 w) _ _

theorem kept_handleAccountRetire (i : Nat) (w : Work) : Kept w.toRecords (handleAccountRetire i w).1.toRecords := by
  obtain h | ⟨a, found, -, h⟩ := handleAccountRetire_cases i w
  · exact .of_eq h
  · rw [h]
    unfold retireAccount
    refine Kept.trans ?_ (kept_completeAccount _ _)
    refine Kept.trans ?_ (kept_removeHeld _ _)
    refine Kept.trans ?_ (kept_closeAccountVisit _ _ _)
    exact kept_setAccount_same found rfl rfl

theorem kept_handlePoolRetire (i : Nat) (w : Work) : Kept w.toRecords (handlePoolRetire i w).1.toRecords := by
  obtain h | ⟨p, -, -, h⟩ := handlePoolRetire_cases i w
  · exact .of_eq h
  · rw [h]; exact kept_dropPool w i

/-! ### The hold queue -/

theorem nextJob_bounds (r : Records) : 1 ≤ nextJob r ∧ nextJob r < 65536 := by
  obtain ⟨low, high⟩ := nextFree_bounds (top := Config.maxJob) (by decide) r.hq.jobs.indices (r.hq.jobs.length + 1) r.hq.lastJob
  exact ⟨low, Nat.lt_succ_of_le high⟩

theorem kept_enterJob {n : Nat} {j : Job} (hn : 1 ≤ n ∧ n < 65536) (owner : j.owner < 4096) (w : Work) :
    Kept w.toRecords (enterJob n j w).toRecords := by
  unfold enterJob
  refine Kept.trans ?_ (kept_offerJob _ _ _)
  refine Kept.trans ?_ (kept_updateAccount fun _ => ⟨rfl, rfl⟩)
  have listed : Kept w.toRecords ((w.setJob n j).setJobList j.owner (jobList w.toRecords j.owner ++ [n])).toRecords :=
    Kept.trans (kept_setJob fun _ => hn) (kept_setJobList fun _ _ => owner)
  refine listed.trans ?_
  exact ⟨rfl, rfl, fun k => { k with }, fun k => { k with }, fun k => { k with }, id⟩

theorem kept_submit {f : JobSubmit} (size : SizeClass) (target : Target) (displaced : Option Nat) (w : Work)
    (owner : f.owner < 4096) : Kept w.toRecords (submit f size target displaced w).1.toRecords := by
  unfold submit
  cases displaced with
  | none => exact kept_enterJob (nextJob_bounds _) owner _
  | some d => exact (kept_removeJob _ _ _ _).trans (kept_enterJob (nextJob_bounds _) owner _)

theorem kept_handleJobSubmit (f : JobSubmit) (w : Work) : Kept w.toRecords (handleJobSubmit f w).1.toRecords := by
  obtain h | ⟨_, _, _, owner, -, -, -, -, h⟩ := handleJobSubmit_cases f w
  · exact .of_eq h
  · rw [h]; exact kept_submit _ _ _ _ owner

theorem kept_cancelJob (n account : Nat) (w : Work) : Kept w.toRecords (cancelJob n account w).1.toRecords := by
  obtain h | ⟨j, -, -, ⟨-, h⟩ | ⟨g, -, h⟩⟩ := cancelJob_cases n account w
  · exact .of_eq h
  · rw [h]; exact kept_removeJob _ _ _ _
  · rw [h]
    exact ((((kept_refund _ _ _).trans (kept_leaveFlight _ _ _ _)).trans (kept_removeJob _ _ _ _)).trans
      (kept_completeAccount _ _)).trans (kept_completePrinter _ _)

theorem kept_expiryFalls (n : Nat) (w : Work) : Kept w.toRecords (expiryFalls n w).toRecords := by
  obtain h | ⟨j, -, -, -, h⟩ := expiryFalls_cases n w
  · exact .of_eq h
  · rw [h]; exact kept_removeJob _ _ _ _

/-! ### The release unit -/

theorem kept_refreshIdle (p : Nat) (w : Work) : Kept w.toRecords (refreshIdle p w).toRecords := by
  obtain h | ⟨v, found, h⟩ := refreshIdle_cases p w
  · exact .of_eq h
  · rw [h]; exact kept_setVisit_of_lookup found _

theorem kept_clearTheWay (p i : Nat) (w : Work) : Kept w.toRecords (clearTheWay p i w).toRecords := by
  have here (w : Work) : Kept w.toRecords (clearHere p i w).toRecords := by
    obtain ⟨h, -⟩ | ⟨-, h⟩ := clearHere_cases p i w
    · exact .of_eq h
    · rw [h]; exact kept_closeVisit _ _ _
  obtain ⟨h, -⟩ | ⟨k, -, -, h⟩ := clearTheWay_cases p i w <;> rw [h]
  · exact here _
  · exact (kept_closeVisit _ _ _).trans (here _)

/-- A visit that opens keeps all but that no visit stands. -/
theorem stepped_setVisit {p : Nat} (hp : p < 96) (v : Visit) (w : Work) :
    Stepped w.toRecords (w.setVisit p v).toRecords where
  uptime := rfl
  settings h := { h with }
  clock h := { h with }
  tables h := { h with visits := h.visits.put ⟨Nat.zero_le _, hp⟩ v }
  balances h := { h with }
  counts h := { h with }

theorem stepped_handleBadgePresented (p code : Nat) (w : Work) :
    Stepped w.toRecords (handleBadgePresented p code w).1.toRecords := by
  obtain h | ⟨i, -, -, -, -, hp, -, -, -, -, h⟩ := handleBadgePresented_cases p code w
  · exact (Kept.of_eq h).stepped
  · rw [h]
    refine (kept_clearTheWay p i w).stepped.trans ?_
    obtain h | h | ⟨a, found, -, h⟩ := buildMenu_cases p i (clearTheWay p i w)
    · exact (Kept.of_eq h).stepped
    · rw [h]; exact (kept_closeVisit _ _ _).stepped
    · rw [h]
      generalize clearTheWay p i w = w' at found ⊢
      have opened := stepped_setVisit hp (.opened (builtVisit w'.toRecords p i w'.now w'.rlu.idleTimeout)) w'
      exact opened.trans (Kept.stepped (kept_setAccount_same (a := a) found rfl rfl))

theorem kept_handleNext (p : Nat) (w : Work) : Kept w.toRecords (handleNext p w).1.toRecords := by
  obtain h | ⟨v, found, h⟩ := handleNext_cases p w
  · exact .of_eq h
  · rw [h]; exact (kept_setVisit_of_lookup found _).trans (kept_refreshIdle _ _)

theorem kept_handlePrevious (p : Nat) (w : Work) : Kept w.toRecords (handlePrevious p w).1.toRecords := by
  obtain h | ⟨v, found, h⟩ := handlePrevious_cases p w
  · exact .of_eq h
  · rw [h]; exact (kept_setVisit_of_lookup found _).trans (kept_refreshIdle _ _)

/-- The terminal of a visit is a printer of the table. -/
theorem visit_bounds {r r' : Records} {p : Nat} {v : Visit} (found : r.rlu.visits.lookup p = some v)
    (same : r'.rlu.visits = r.rlu.visits) (k : TablesSound r') : p < 96 :=
  (k.visits.bounds (same ▸ found)).2

/-- A reserved grant at a terminal whose printer has room in flight (R66, R67, R70). -/
theorem kept_reserved_grantJob {p n x y : Nat} {j : Job} {v : Visit} (found : w.rlu.visits.lookup p = some v)
    (space : (inFlightList w.toRecords p).length < 4) (live : w.hq.jobs.lookup n = some j) :
    Kept w.toRecords (grantJob p n j x y (reserve j.owner x y w)).toRecords
      ∧ (grantJob p n j x y (reserve j.owner x y w)).rlu.visits.lookup p = some v := by
  obtain ⟨hq, rlu, -⟩ := reserve_frame j.owner x y w
  refine ⟨(kept_reserve _ _ _ _).trans (kept_grantJob (j' := j) (fun r same k => ?_) ?_ ?_), ?_⟩
  · exact visit_bounds (found) (by rw [same, rlu]) k
  · rw [inFlightList, rlu]; exact space
  · rw [hq]; exact live
  · simp only [grantJob, joinFlight, Work.updateAccount]
    split <;> simpa [Work.setInFlight, rlu] using found

theorem kept_selectJob {p n : Nat} {j : Job} {v : OpenVisit} (found : w.rlu.visits.lookup p = some (.opened v))
    (live : w.hq.jobs.lookup n = some j) : Kept w.toRecords (selectJob p n j v w).1.toRecords := by
  obtain h | ⟨f, -, h⟩ | ⟨x, y, -, -, space, -, h⟩ := selectJob_cases p n j v w <;> rw [h]
  · exact kept_refreshIdle _ _
  · exact (kept_setVisit_of_lookup found _).trans (kept_refreshIdle _ _)
  · obtain ⟨granted, stands⟩ := kept_reserved_grantJob (x := x) (y := y) found space live
    exact (granted.trans (kept_setVisit_of_lookup stands _)).trans (kept_refreshIdle _ _)

theorem kept_handleSelect (p : Nat) (w : Work) : Kept w.toRecords (handleSelect p w).1.toRecords := by
  obtain h | h | ⟨v, n, j, found, -, live, h⟩ := handleSelect_cases p w
  · exact .of_eq h
  · rw [h]; exact kept_refreshIdle _ _
  · rw [h]; exact kept_selectJob found live

theorem kept_handleSelectAll (p : Nat) (w : Work) : Kept w.toRecords (handleSelectAll p w).1.toRecords := by
  obtain h | h | ⟨v, found, -, -, h⟩ := handleSelectAll_cases p w
  · exact .of_eq h
  · rw [h]; exact kept_refreshIdle _ _
  · rw [h]; exact kept_setVisit_of_lookup found _

theorem kept_handleDelete (p : Nat) (w : Work) : Kept w.toRecords (handleDelete p w).1.toRecords := by
  obtain h | h | ⟨v, n, found, -, h⟩ := handleDelete_cases p w
  · exact .of_eq h
  · rw [h]; exact kept_refreshIdle _ _
  · rw [h]; exact (kept_cancelJob _ _ _).trans (kept_refreshIdle _ _)

theorem kept_handleDone (p : Nat) (w : Work) : Kept w.toRecords (handleDone p w).1.toRecords := by
  obtain h | h := handleDone_cases p w
  · exact .of_eq h
  · rw [h]; exact kept_closeVisit _ _ _

theorem kept_idleFalls (p : Nat) (w : Work) : Kept w.toRecords (idleFalls p w).toRecords := by
  obtain h | ⟨v, -, h⟩ := idleFalls_cases p w
  · exact .of_eq h
  · rw [h]; exact kept_closeVisit _ _ _

theorem kept_leaveDrain {p : Nat} {v : Visit} (found : w.rlu.visits.lookup p = some v) (d : DrainVisit) :
    Kept w.toRecords (leaveDrain p d w).toRecords := by
  unfold leaveDrain
  have written := kept_setVisit_of_lookup found (.draining d)
  dsimp only
  split
  · exact written.trans (kept_closeVisit _ _ _)
  · exact written

theorem kept_drainGrants (p : Nat) (w : Work) : Kept w.toRecords (drainGrants p w).toRecords := by
  obtain h | ⟨d, n, rest, found, -, -, space, h⟩ := drainGrants_cases p w
  · exact .of_eq h
  · rw [h]
    obtain h | ⟨j, x, y, live, -, -, h⟩ := drainHead_cases p n rest d w <;> rw [h]
    · exact kept_leaveDrain found _
    · obtain ⟨granted, stands⟩ := kept_reserved_grantJob (x := x) (y := y) found space live
      exact granted.trans ((kept_raise _ _ _ _).trans (kept_leaveDrain (w := raiseGrant p n j x y _) stands _))

theorem kept_setWindow (p n : Nat) (d : Deadline) (w : Work) : Kept w.toRecords (setWindow p n d w).toRecords :=
  kept_setInFlight_shorter (by rw [List.length_map])

theorem kept_handleSpoolAccepted (n number : Nat) (w : Work) :
    Kept w.toRecords (handleSpoolAccepted n number w).1.toRecords := by
  obtain h | ⟨j, g, found, -, h⟩ := handleSpoolAccepted_cases n number w
  · exact .of_eq h
  · rw [h]; exact (kept_setJob_of_lookup found _).trans (kept_setWindow _ _ _ _)

theorem kept_failRelease (n : Nat) (j : Job) (g : Grant) (w : Work) :
    Kept w.toRecords (failRelease n j g w).toRecords := by
  unfold failRelease
  refine Kept.trans ?_ (kept_completePrinter _ _)
  refine Kept.trans ?_ (kept_completeAccount _ _)
  exact kept_endRelease _ _ _ _

theorem kept_handleSpoolFailed (n number : Nat) (w : Work) :
    Kept w.toRecords (handleSpoolFailed n number w).1.toRecords := by
  obtain h | ⟨j, g, -, -, h⟩ := handleSpoolFailed_cases n number w
  · exact .of_eq h
  · rw [h]; exact kept_failRelease _ _ _ _

@[simp] theorem raiseSettled_records (n : Nat) (j : Job) (g : Grant) (p : Priced) (a : Nat) (w : Work) :
    (raiseSettled n j g p a w).toRecords = w.toRecords := rfl

theorem kept_settleJob (n : Nat) (j : Job) (g : Grant) (p : Priced) (w : Work) :
    Kept w.toRecords (settleJob n j g p w).toRecords := by
  unfold settleJob
  refine Kept.trans ?_ (kept_completePrinter _ _)
  refine Kept.trans ?_ (kept_completeAccount _ _)
  refine Kept.trans ?_ (kept_leaveQueue _ _ _)
  rw [raiseSettled_records]
  refine Kept.trans ?_ (kept_leaveFlight _ _ _ _)
  refine Kept.trans ?_ (kept_endHandling _)
  refine Kept.trans ?_ (kept_applyConsumption _ _ _ _ _ _)
  exact kept_postSettlement _ _ _ _

theorem kept_handlePagesDone (f : PagesDone) (w : Work) : Kept w.toRecords (handlePagesDone f w).1.toRecords := by
  obtain h | ⟨j, g, -, -, h⟩ := handlePagesDone_cases f w
  · exact .of_eq h
  · rw [h]; exact kept_settleJob _ _ _ _ _

theorem kept_grantWindowFalls (n : Nat) (w : Work) : Kept w.toRecords (grantWindowFalls n w).toRecords := by
  obtain h | ⟨j, g, -, -, -, h⟩ := grantWindowFalls_cases n w
  · exact .of_eq h
  · rw [h]; exact kept_failRelease _ _ _ _

theorem kept_completionWindowFalls (n : Nat) (w : Work) : Kept w.toRecords (completionWindowFalls n w).toRecords := by
  obtain h | ⟨j, g, _, -, -, -, h⟩ := completionWindowFalls_cases n w
  · exact .of_eq h
  · rw [h]; exact kept_settleJob _ _ _ _ _

/-! ### Printers -/

theorem kept_handlePrinterAdd (f : PrinterAdd) (w : Work) : Kept w.toRecords (handlePrinterAdd f w).1.toRecords := by
  obtain h | ⟨hp, -, h⟩ := handlePrinterAdd_cases f w
  · exact .of_eq h
  · rw [h]; exact (kept_setPrinter _ fun _ => hp).trans (kept_raisePrinterState _ _ _)

theorem kept_handlePrinterSet (f : PrinterSet) (w : Work) : Kept w.toRecords (handlePrinterSet f w).1.toRecords := by
  obtain h | ⟨p, found, -, -, h⟩ := handlePrinterSet_cases f w
  · exact .of_eq h
  · rw [h]; exact kept_setPrinter_of_lookup found _

/-- A change of a printer's health at an index of the table (R98). -/
theorem kept_finishChange_at {i : Nat} (hi : i < 96) (old new : Printer) (w : Work) :
    Kept w.toRecords (finishChange i old new w).toRecords := by
  refine Kept.trans ?_ (kept_completeAccounts _ _)
  refine Kept.trans ?_ (kept_endHandling _)
  unfold changePrinter
  refine Kept.trans ?_ (kept_tellNeighbours _ _ _ _)
  split
  · exact kept_setPrinter _ fun _ => hi
  · exact (kept_setPrinter _ fun _ => hi).trans (kept_raisePrinterState _ _ _)

theorem kept_takeReport {i : Nat} (hi : i < 96) (live : CondSet) (l : List Reading) (p : Printer) (w : Work) :
    Kept w.toRecords (takeReport i live l p w).1.toRecords := by
  unfold takeReport
  refine Kept.trans ?_ (kept_finishChange_at hi _ _ _)
  have recorded : Kept w.toRecords
      ((if p.present then w else endAbsence i w).setPrinter i (recordReport w.now live p)).toRecords := by
    refine Kept.trans ?_ (kept_setPrinter _ fun _ => hi)
    split
    · exact .refl _
    · exact kept_endAbsence _ _
  split
  · exact recorded
  · exact recorded.trans (kept_takeReadings _ _ _)

theorem kept_handleStatusReport (i conditions : Nat) (readings : List Nat) (w : Work) :
    Kept w.toRecords (handleStatusReport i conditions readings w).1.toRecords := by
  obtain h | ⟨_, _, _, hi, -, h⟩ := handleStatusReport_cases i conditions readings w
  · exact .of_eq h
  · rw [h]; exact kept_takeReport hi _ _ _ _

theorem kept_handleConditionsClear (i conditions : Nat) (w : Work) :
    Kept w.toRecords (handleConditionsClear i conditions w).1.toRecords := by
  obtain h | ⟨p, _, found, h⟩ := handleConditionsClear_cases i conditions w
  · exact .of_eq h
  · rw [h]; exact kept_setPrinter_of_lookup found _

theorem kept_handleServiceWithdraw (i : Nat) (w : Work) : Kept w.toRecords (handleServiceWithdraw i w).1.toRecords := by
  obtain h | ⟨p, _, found, -, h⟩ := handleServiceWithdraw_cases i w
  · exact .of_eq h
  · rw [h]; exact kept_finishChange found

theorem kept_handleServiceReturn (i : Nat) (w : Work) : Kept w.toRecords (handleServiceReturn i w).1.toRecords := by
  obtain h | ⟨p, _, found, -, h⟩ := handleServiceReturn_cases i w
  · exact .of_eq h
  · rw [h]; exact kept_finishChange found

theorem kept_qualificationFalls (i : Nat) (c : Condition) (w : Work) :
    Kept w.toRecords (qualificationFalls i c w).toRecords := by
  obtain h | ⟨p, found, -, h⟩ := qualificationFalls_cases i c w
  · exact .of_eq h
  · rw [h]
    obtain h | h := verdict_cases i c p w <;> rw [h]
    · exact kept_finishChange found
    · exact (kept_raise w _ _ _).trans (kept_finishChange (w := raiseRestartRequest i c _ w) found)

theorem kept_restartFalls (i : Nat) (w : Work) : Kept w.toRecords (restartFalls i w).toRecords := by
  obtain h | ⟨p, found, -, h⟩ := restartFalls_cases i w
  · exact .of_eq h
  · rw [h]; exact kept_finishChange found

theorem kept_restartCreditFalls (i : Nat) (w : Work) : Kept w.toRecords (restartCreditFalls i w).toRecords := by
  obtain h | ⟨p, found, h⟩ := restartCreditFalls_cases i w
  · exact .of_eq h
  · rw [h]; exact kept_setPrinter_of_lookup found _

theorem kept_heartbeatFalls (i : Nat) (w : Work) : Kept w.toRecords (heartbeatFalls i w).toRecords := by
  obtain h | ⟨p, found, -, h⟩ := heartbeatFalls_cases i w
  · exact .of_eq h
  · rw [h]; exact kept_finishChange found

theorem kept_absenceFalls (i : Nat) (w : Work) : Kept w.toRecords (absenceFalls i w).toRecords := by
  obtain h | ⟨p, found, -, ⟨-, h⟩ | ⟨-, h⟩⟩ := absenceFalls_cases i w
  · exact .of_eq h
  · rw [h]; exact kept_setPrinter_of_lookup found _
  · rw [h]; exact ((kept_setPrinter_of_lookup found _).trans (kept_arise _ _ _)).trans (kept_endHandling _)

theorem kept_clearSiblings (p : Nat) (w : Work) : Kept w.toRecords (clearSiblings p w).toRecords :=
  ⟨rfl, rfl, fun k => { k with printers := k.printers.map _ }, fun k => { k with }, fun k => { k with }, id⟩

theorem kept_retargetJobs (p floor : Nat) (w : Work) : Kept w.toRecords (retargetJobs p floor w).toRecords :=
  ⟨rfl, rfl, fun k => { k with jobs := k.jobs.map _ }, fun k => { k with }, fun k => { k with }, id⟩

theorem kept_unfitSlots (p : Nat) (w : Work) : Kept w.toRecords (unfitSlots p w).toRecords :=
  ⟨rfl, rfl, fun k => { k with slots := k.slots.filter _ }, fun k => { k with }, fun k => { k with }, id⟩

theorem retirePrinter_fst (i : Nat) (p : Printer) (w : Work) :
    (retirePrinter i p w).1 =
      completePrinter i (endHandling (unfitSlots i (resolveWhere (ticketOf i) .retired (dropOwed (owedOf i)
        (retargetJobs i p.floor (closeVisit i .service (raisePrinterState i p.state.code (clearSiblings i
          (w.setPrinter i (cancelDeadlines { p with state := .retiring w.now })))))))))) := by
  simp only [retirePrinter, Work.ok_fst]

theorem kept_handlePrinterRetire (i : Nat) (w : Work) : Kept w.toRecords (handlePrinterRetire i w).1.toRecords := by
  obtain h | ⟨p, hi, found, -, h⟩ := handlePrinterRetire_cases i w
  · exact .of_eq h
  · rw [h]
    rw [retirePrinter_fst]
    refine Kept.trans ?_ (kept_completePrinter _ _)
    refine Kept.trans ?_ (kept_endHandling _)
    refine Kept.trans ?_ (kept_unfitSlots _ _)
    refine Kept.trans ?_ ((kept_dropOwed _ _).trans (kept_resolveWhere _ _ _))
    refine Kept.trans ?_ ((kept_closeVisit _ _ _).trans (kept_retargetJobs _ _ _))
    exact ((kept_setPrinter_of_lookup found _).trans (kept_clearSiblings _ _)).trans (kept_raisePrinterState _ _ _)

theorem kept_handlePrinterReseat (i : Nat) (w : Work) : Kept w.toRecords (handlePrinterReseat i w).1.toRecords := by
  obtain h | ⟨p, hi, found, -, h⟩ := handlePrinterReseat_cases i w
  · exact .of_eq h
  · rw [h]
    unfold reseat
    refine Kept.trans ?_ ((kept_endHandling _).trans (kept_completeAccounts _ _))
    refine Kept.trans ?_ ((kept_dropOwed _ _).trans (kept_resolveWhere _ _ _))
    refine Kept.trans ?_ ((kept_closeVisit _ _ _).trans (kept_returnReleasing _ _ _))
    exact (kept_setPrinter_of_lookup found _).trans (kept_raisePrinterState _ _ _)

/-! ### Cartridges and stock -/

theorem kept_handleSupplyDefine (i colour modelGroup : Nat) (f : SupplySettings) (w : Work) :
    Kept w.toRecords (handleSupplyDefine i colour modelGroup f w).1.toRecords := by
  obtain h | ⟨_, hi, -, h⟩ := handleSupplyDefine_cases i colour modelGroup f w
  · exact .of_eq h
  · rw [h]; exact (kept_setType _ fun _ => hi).trans (kept_orderPoint _)

theorem kept_handleSupplySet (i : Nat) (f : SupplySettings) (w : Work) :
    Kept w.toRecords (handleSupplySet i f w).1.toRecords := by
  obtain h | ⟨t, found, h⟩ := handleSupplySet_cases i f w
  · exact .of_eq h
  · rw [h]; exact (kept_setType_of_lookup found _).trans (kept_orderPoint _)

theorem kept_handleSupplyRetire (i : Nat) (w : Work) : Kept w.toRecords (handleSupplyRetire i w).1.toRecords := by
  obtain h | ⟨t, -, -, -, h⟩ := handleSupplyRetire_cases i w
  · exact .of_eq h
  · rw [h]; exact kept_dropType w i

theorem kept_handleOrderPlaced (i quantity : Nat) (w : Work) :
    Kept w.toRecords (handleOrderPlaced i quantity w).1.toRecords := by
  obtain h | ⟨t, found, h⟩ := handleOrderPlaced_cases i quantity w
  · exact .of_eq h
  · rw [h]; exact (kept_setType_of_lookup found _).trans (kept_orderPoint _)

theorem kept_handleDeliveryReceived (i quantity : Nat) (w : Work) :
    Kept w.toRecords (handleDeliveryReceived i quantity w).1.toRecords := by
  obtain h | ⟨t, found, h⟩ := handleDeliveryReceived_cases i quantity w
  · exact .of_eq h
  · rw [h]; exact (kept_setType_of_lookup found _).trans (kept_endHandling _)

theorem kept_handleStockAdjust (i count : Nat) (w : Work) :
    Kept w.toRecords (handleStockAdjust i count w).1.toRecords := by
  obtain h | ⟨t, found, h⟩ := handleStockAdjust_cases i count w
  · exact .of_eq h
  · rw [h]
    exact ((kept_setType_of_lookup found _).trans (kept_withdrawUnits _ _ _)).trans (kept_endHandling _)

theorem kept_overdueFalls (i : Nat) (w : Work) : Kept w.toRecords (overdueFalls i w).toRecords := by
  obtain h | ⟨t, _, found, h⟩ := overdueFalls_cases i w
  · exact .of_eq h
  · rw [h]; exact kept_setType_of_lookup found _

theorem kept_drawStock {i : Nat} (hi : i < 32) (t : SupplyType) (gaveBack : Bool) (w : Work) :
    Kept w.toRecords (drawStock i t gaveBack w).1.toRecords :=
  (kept_setType _ fun _ => hi).trans (kept_withdrawUnits _ _ _)

theorem kept_drawUnit {key i : Nat} (hi : i < 32) (t : SupplyType) (w : Work) :
    Kept w.toRecords (drawUnit key i t w).1.toRecords := by
  unfold drawUnit
  split
  · split
    · exact kept_drawStock hi _ _ _
    split
    · exact kept_setType _ fun _ => hi
    · exact (kept_giveBackUnit _ _).trans (kept_drawStock hi _ _ _)
  · exact kept_drawStock hi _ _ _

theorem kept_tellInstalled (key : Nat) (gaveBack : Bool) (w : Work) :
    Kept w.toRecords (tellInstalled key gaveBack w).toRecords := by
  unfold tellInstalled
  split
  · exact kept_removeTicket _ _ _ _
  · exact kept_dropOwed _ _

theorem kept_announceInstall (p : Nat) (l : SlotLetter) (old : Option Slot) (w : Work) :
    Kept w.toRecords (announceInstall p l old w).toRecords := by
  unfold announceInstall
  split
  · split
    · exact .refl _
    · exact kept_raiseSlotLevel _ _ _ _ _
  · exact kept_raiseSlotLevel _ _ _ _ _

theorem slotKey_lt {p : Nat} (hp : p < 96) (l : SlotLetter) : slotKey p l < 384 := by
  have : l.code < 4 := by cases l <;> decide
  unfold slotKey
  omega

theorem kept_install {p i : Nat} (hp : p < 96) (hi : i < 32) (l : SlotLetter) (t : SupplyType) (w : Work) :
    Kept w.toRecords (install p l i t w).1.toRecords := by
  unfold install
  refine Kept.trans ?_ (kept_endHandling _)
  refine Kept.trans ?_ (kept_announceInstall _ _ _ _)
  refine Kept.trans ?_ (kept_tellInstalled _ _ _)
  exact (kept_drawUnit hi _ _).trans (kept_setSlot _ fun _ => slotKey_lt hp l)

theorem kept_handleCartridgeInstall (p letter i : Nat) (w : Work) :
    Kept w.toRecords (handleCartridgeInstall p letter i w).1.toRecords := by
  obtain h | ⟨l, _, t, hp, hi, -, -, h⟩ := handleCartridgeInstall_cases p letter i w
  · exact .of_eq h
  · rw [h]; exact kept_install hp hi l t w

/-! ### Callouts -/

theorem kept_handleCalloutAck (n : Nat) (w : Work) : Kept w.toRecords (handleCalloutAck n w).1.toRecords := by
  obtain h | ⟨t, -, -, h⟩ := handleCalloutAck_cases n w
  · exact .of_eq h
  · rw [h]; exact kept_putTicket _ _

theorem kept_handleCalloutClose (n : Nat) (w : Work) : Kept w.toRecords (handleCalloutClose n w).1.toRecords := by
  obtain h | ⟨t, -, h⟩ := handleCalloutClose_cases n w
  · exact .of_eq h
  · rw [h]; exact (kept_resolveTicket _ _ _).trans (kept_endHandling _)

theorem kept_escalate (state : TicketState) (n : Nat) (w : Work) : Kept w.toRecords (escalate state n w).toRecords := by
  obtain h | ⟨t, -, -, h⟩ := escalate_cases state n w
  · exact .of_eq h
  · rw [h]; exact (kept_dispatch _ _ _).trans (kept_evaluateAlarm _)

/-! ### The fleet-wide settings -/

theorem stepped_handleQuotaConfig (mono colour period : Option Nat) (w : Work) :
    Stepped w.toRecords (handleQuotaConfig mono colour period w).1.toRecords where
  uptime := rfl
  settings h := by
    obtain ⟨m, c, p⟩ := h.quota
    exact { h with quota := ⟨selected_bounds _ (by decide) m, selected_bounds _ (by decide) c, selected_bounds _ (by decide) p⟩ }
  clock h := { h with period := selected_bounds _ (by decide) h.period }
  tables h := { h with }
  balances h := { h with }
  counts h := { h with }

theorem stepped_handleHoldConfig (hours : Option Nat) (w : Work) :
    Stepped w.toRecords (handleHoldConfig hours w).1.toRecords where
  uptime := rfl
  settings h := { h with hold := selected_bounds _ (by decide) h.hold }
  clock h := { h with }
  tables h := { h with }
  balances h := { h with }
  counts h := { h with }

theorem stepped_handleReleaseConfig (f : ReleaseConfig) (w : Work) :
    Stepped w.toRecords (handleReleaseConfig f w).1.toRecords where
  uptime := rfl
  settings h := by
    obtain ⟨i, g, c, m⟩ := h.release
    exact { h with
      release := ⟨selected_bounds _ (by decide) i, selected_bounds _ (by decide) g, selected_bounds _ (by decide) c,
        selected_bounds _ (by decide) m⟩ }
  clock h := { h with }
  tables h := { h with }
  balances h := { h with }
  counts h := { h with }

theorem stepped_handleHealthConfig (f : HealthConfig) (w : Work) :
    Stepped w.toRecords (handleHealthConfig f w).1.toRecords where
  uptime := rfl
  settings h := by
    obtain ⟨h1, h2, h3, h4, h5, h6, h7, h8⟩ := h.health
    exact { h with
      health := ⟨selected_le _ h1, selected_le _ h2, selected_le _ h3, selected_le _ h4, selected_le _ h5, selected_le _ h6,
        selected_bounds _ (by decide) h7, selected_bounds _ (by decide) h8⟩ }
  clock h := { h with }
  tables h := { h with }
  balances h := { h with }
  counts h := { h with }

theorem stepped_handleSupplyConfig (shift : Option Nat) (w : Work) :
    Stepped w.toRecords (handleSupplyConfig shift w).1.toRecords where
  uptime := rfl
  settings h := { h with supply := selected_bounds _ (by decide) h.supply }
  clock h := { h with }
  tables h := { h with }
  balances h := { h with }
  counts h := { h with }

theorem stepped_handleCalloutConfig (f : CalloutConfig) (w : Work) :
    Stepped w.toRecords (handleCalloutConfig f w).1.toRecords where
  uptime := rfl
  settings h := by
    obtain ⟨a0, a1, a2, a3, t, l⟩ := h.callouts
    exact { h with
      callouts := ⟨selected_bounds _ (by decide) a0, selected_bounds _ (by decide) a1, selected_bounds _ (by decide) a2,
        selected_bounds _ (by decide) a3, selected_bounds _ (by decide) t, selected_le _ l⟩ }
  clock h := { h with }
  tables h := { h with }
  balances h := { h with }
  counts h := { h with }

/-! ### The clock -/

/-- The clock is set: it may have an offset and a roll deadline from then on. -/
theorem stepped_of_clock {a : Records} (f : Fck) (h : f.uptime = a.fck.uptime) (index : f.dayIndex = a.fck.dayIndex)
    (countdown : (1 ≤ a.fck.countdown ∧ a.fck.countdown ≤ 62) → 1 ≤ f.countdown ∧ f.countdown ≤ 62)
    (unset : (a.fck.clockSet = false → a.fck.offset = 0 ∧ a.fck.roll = none) →
      f.clockSet = false → f.offset = 0 ∧ f.roll = none) : Stepped a { a with fck := f } where
  uptime := h
  settings k := { k with }
  clock k := ⟨h ▸ k.uptime, index ▸ k.dayIndex, countdown k.countdown, k.period, unset k.unset⟩
  tables k := { k with }
  balances k := { k with }
  counts k := { k with }

theorem dayRolls_clockSet (n : Nat) (w : Work) : (dayRolls n w).fck.clockSet = w.fck.clockSet := by
  obtain ⟨_, _, h⟩ := (rolled_dayRolls n w).clock
  rw [h]

theorem stepped_setClock (wall rolls : Nat) (countdown : Option Nat) (w : Work) :
    Stepped w.toRecords (setClock wall rolls countdown w).1.toRecords := by
  unfold setClock
  have set : Stepped w.toRecords
      ({ w with fck := { w.fck with offset := (wall : Int) - w.fck.uptime, clockSet := true } } : Work).toRecords :=
    stepped_of_clock _ rfl rfl id (fun _ => by simp)
  refine (set.trans (rolled_dayRolls rolls _).stepped).trans ?_
  have flag := dayRolls_clockSet rolls
    ({ w with fck := { w.fck with offset := (wall : Int) - w.fck.uptime, clockSet := true } } : Work)
  exact stepped_of_clock _ rfl rfl (fun h => selected_bounds _ (by decide) h) (fun _ h => by simp [armRoll, flag] at h)

theorem stepped_handleClockSet (wall : Nat) (countdown : Option Nat) (w : Work) :
    Stepped w.toRecords (handleClockSet wall countdown w).1.toRecords := by
  obtain h | ⟨rolls, h⟩ := handleClockSet_cases wall countdown w
  · exact (Kept.of_eq h).stepped
  · rw [h]; exact stepped_setClock _ _ _ _

/-- A clock that holds a roll deadline has been set: its deadline may be replaced. -/
theorem stepped_roll {d : Deadline} (roll : Option Deadline) (h : w.fck.roll = some d) :
    Stepped w.toRecords ({ w with fck := { w.fck with roll := roll } } : Work).toRecords :=
  stepped_of_clock _ rfl rfl id fun k hf => by simp [h] at k; simp [k] at hf

theorem stepped_rollFalls (w : Work) : Stepped w.toRecords (rollFalls w).toRecords := by
  obtain h | ⟨d, roll, held, -, h⟩ := rollFalls_cases w
  · exact (Kept.of_eq h).stepped
  · rw [h]; exact (stepped_roll roll held).trans (rolled_dayRoll _).stepped

/-! ### The warm start -/

theorem crossed_ne_zero {f : Fck} (h : crossed f ≠ 0) : ∃ d, f.roll = some d := by
  unfold crossed at h
  split at h
  · exact absurd rfl h
  · exact ⟨_, ‹_›⟩

theorem stepped_catchUp (w : Work) : Stepped w.toRecords (catchUp w).toRecords := by
  unfold catchUp
  split
  · exact .refl _
  · rename_i some?
    obtain ⟨d, held⟩ := crossed_ne_zero some?
    have rolled := rolled_dayRolls (catchUpCounts w.fck).1 w
    obtain ⟨_, _, clock⟩ := rolled.clock
    exact rolled.stepped.trans (stepped_roll _ (by rw [clock]; exact held))

theorem kept_clearVisits (w : Work) : Kept w.toRecords (clearVisits w).toRecords where
  settings := rfl
  clock := rfl
  tables k := { k with accounts := k.accounts.map _, visits := Rising.nil }
  balances k := by
    refine { k with accounts := fun e he => ?_ }
    obtain ⟨e', he', rfl⟩ := List.mem_map.mp he
    exact k.accounts e' he'
  counts k := { k with }
  visits _ := rfl

theorem length_insertByAccepted (r : Records) (e : InFlight) (l : List InFlight) :
    (insertByAccepted r e l).length = l.length + 1 := by
  induction l with
  | nil => rfl
  | cons f rest ih =>
    simp only [insertByAccepted]
    split
    · rfl
    · rw [List.length_cons, ih, List.length_cons]

theorem length_foldl_insertByAccepted (r : Records) (l sorted : List InFlight) :
    (l.foldl (fun sorted e => insertByAccepted r e sorted) sorted).length = sorted.length + l.length := by
  induction l generalizing sorted with
  | nil => rfl
  | cons e rest ih => rw [List.foldl_cons, ih, length_insertByAccepted, List.length_cons]; omega

/-- A rebuilt list holds as many entries as the list did (R82 step 3). -/
theorem length_rebuiltList (r : Records) (l : List InFlight) : (rebuiltList r l).length = l.length := by
  have parts := List.length_eq_length_filter_add (l := l) (fun e => (acceptedOf r e.job).isSome)
  have none_eq : (fun e : InFlight => !(acceptedOf r e.job).isSome) = fun e => (acceptedOf r e.job).isNone := by
    funext e; cases acceptedOf r e.job <;> rfl
  rw [none_eq] at parts
  rw [rebuiltList, List.length_append, length_foldl_insertByAccepted, parts, List.length_nil, Nat.zero_add]

theorem kept_rebuildFlight (w : Work) : Kept w.toRecords (rebuildFlight w).toRecords where
  settings := rfl
  clock := rfl
  tables k := { k with accounts := k.accounts.map _, inFlight := k.inFlight.map _ }
  balances k := by
    refine { k with accounts := fun e he => ?_ }
    obtain ⟨e', he', rfl⟩ := List.mem_map.mp he
    exact k.accounts e' he'
  counts k := by
    refine { k with flight := fun e he => ?_ }
    obtain ⟨e', he', rfl⟩ := List.mem_map.mp he
    exact (length_rebuiltList _ _).trans_le (k.flight e' he')
  visits h := h

theorem kept_takePassed (d : DeadlineName) (w : Work) : Kept w.toRecords (takePassed d w).toRecords := by
  cases d with
  | expiry n => exact kept_expiryFalls n w
  | idle => exact .refl _
  | grantWindow => exact .refl _
  | completionWindow n => exact kept_completionWindowFalls n w
  | qualification p c => exact kept_qualificationFalls p c w
  | restart p => exact kept_restartFalls p w
  | restartCredit p => exact kept_restartCreditFalls p w
  | heartbeat p => exact kept_heartbeatFalls p w
  | absence p => exact kept_absenceFalls p w
  | overdue i => exact kept_overdueFalls i w
  | acknowledgement n => exact kept_escalate _ n w
  | work n => exact kept_escalate _ n w

theorem stepped_takeWork (r : Work × Bool) (piece : StartWork) :
    Stepped r.1.toRecords (takeWork r piece).1.toRecords := by
  cases piece with
  | giveBack n => exact (kept_endRelease _ _ _ _).stepped
  | rolls =>
    simp only [takeWork]
    split
    · exact .refl _
    · exact stepped_catchUp _
  | deadline d => exact (kept_takePassed d _).stepped

theorem stepped_startWork (order : List StartWork) (w : Work) :
    Stepped w.toRecords (startWork order w).toRecords := by
  have taken (order : List StartWork) (r : Work × Bool) :
      Stepped r.1.toRecords (order.foldl takeWork r).1.toRecords := by
    induction order generalizing r with
    | nil => exact .refl _
    | cons piece rest ih => exact (stepped_takeWork r piece).trans (ih _)
  unfold startWork
  refine Stepped.trans ?_ (Kept.foldl (kept_endRelease false none) _ _).stepped
  split
  · exact taken order (w, false)
  · exact (taken order (w, false)).trans (stepped_catchUp _)

theorem kept_completeRetirements (w : Work) : Kept w.toRecords (completeRetirements w).toRecords := by
  unfold completeRetirements
  exact Kept.trans (kept_completeAccounts _ _) (Kept.foldl (fun w i => kept_completePrinter i w) _ _)

theorem warmWork_records (order : List StartWork) (w : Work) :
    (warmWork order w).toRecords =
      (completeRetirements (endHandling (startWork order (rebuildFlight (clearVisits w))))).toRecords := by
  simp only [warmWork]

theorem stepped_warmWork (order : List StartWork) (w : Work) : Stepped w.toRecords (warmWork order w).toRecords := by
  rw [warmWork_records]
  refine Stepped.trans ?_ (kept_completeRetirements _).stepped
  refine Stepped.trans ?_ (kept_endHandling _).stepped
  exact ((kept_clearVisits w).trans (kept_rebuildFlight _)).stepped.trans (stepped_startWork _ _)

/-! ### Every command -/

/-- Every request keeps the invariants of its records. -/
theorem stepped_requestWork (c : Instr) (w : Work) : Stepped w.toRecords (requestWork c w).1.toRecords := by
  cases c
  case accountOpen => exact (kept_handleAccountOpen _ _).stepped
  case accountSet => exact (kept_handleAccountSet _ _).stepped
  case accountSuspend => exact (kept_handleAccountSuspend _ _).stepped
  case accountResume => exact (kept_handleAccountResume _ _).stepped
  case accountCredit => exact (kept_handleAccountCredit _ _ _).stepped
  case peakClear => exact (kept_handlePeakClear _ _).stepped
  case accountRetire => exact (kept_handleAccountRetire _ _).stepped
  case badgeBind => exact (kept_handleBadgeBind _ _ _).stepped
  case badgeUnbind => exact (kept_handleBadgeUnbind _ _ _).stepped
  case poolRetire => exact (kept_handlePoolRetire _ _).stepped
  case poolOpen => exact (kept_handlePoolOpen _ _ _).stepped
  case poolSet => exact (kept_handlePoolSet _ _ _).stepped
  case poolCredit => exact (kept_handlePoolCredit _ _ _).stepped
  case quotaConfig => exact stepped_handleQuotaConfig _ _ _ _
  case jobSubmit => exact (kept_handleJobSubmit _ _).stepped
  case jobCancel => exact (kept_cancelJob _ _ _).stepped
  case holdConfig => exact stepped_handleHoldConfig _ _
  case badgePresented => exact stepped_handleBadgePresented _ _ _
  case next => exact (kept_handleNext _ _).stepped
  case previous => exact (kept_handlePrevious _ _).stepped
  case select => exact (kept_handleSelect _ _).stepped
  case selectAll => exact (kept_handleSelectAll _ _).stepped
  case delete => exact (kept_handleDelete _ _).stepped
  case done => exact (kept_handleDone _ _).stepped
  case spoolAccepted => exact (kept_handleSpoolAccepted _ _ _).stepped
  case spoolFailed => exact (kept_handleSpoolFailed _ _ _).stepped
  case pagesDone => exact (kept_handlePagesDone _ _).stepped
  case releaseConfig => exact stepped_handleReleaseConfig _ _
  case printerAdd => exact (kept_handlePrinterAdd _ _).stepped
  case printerSet => exact (kept_handlePrinterSet _ _).stepped
  case statusReport => exact (kept_handleStatusReport _ _ _ _).stepped
  case conditionsClear => exact (kept_handleConditionsClear _ _ _).stepped
  case serviceWithdraw => exact (kept_handleServiceWithdraw _ _).stepped
  case serviceReturn => exact (kept_handleServiceReturn _ _).stepped
  case healthConfig => exact stepped_handleHealthConfig _ _
  case printerRetire => exact (kept_handlePrinterRetire _ _).stepped
  case printerReseat => exact (kept_handlePrinterReseat _ _).stepped
  case supplyDefine => exact (kept_handleSupplyDefine _ _ _ _ _).stepped
  case supplySet => exact (kept_handleSupplySet _ _ _).stepped
  case supplyConfig => exact stepped_handleSupplyConfig _ _
  case supplyRetire => exact (kept_handleSupplyRetire _ _).stepped
  case cartridgeInstall => exact (kept_handleCartridgeInstall _ _ _ _).stepped
  case orderPlaced => exact (kept_handleOrderPlaced _ _ _).stepped
  case deliveryReceived => exact (kept_handleDeliveryReceived _ _ _).stepped
  case stockAdjust => exact (kept_handleStockAdjust _ _ _).stepped
  case calloutAck => exact (kept_handleCalloutAck _ _).stepped
  case calloutClose => exact (kept_handleCalloutClose _ _).stepped
  case calloutConfig => exact stepped_handleCalloutConfig _ _
  case clockSet => exact stepped_handleClockSet _ _ _
  all_goals exact .refl _

theorem stepped_eventWork {c : Instr} {f : Work → Work} (h : eventWork? c = some f) (w : Work) :
    Stepped w.toRecords (f w).toRecords := by
  cases c <;> cases h
  case expiryDeadline => exact (kept_expiryFalls _ _).stepped
  case drainGrant => exact (kept_drainGrants _ _).stepped
  case idleDeadline => exact (kept_idleFalls _ _).stepped
  case grantWindow => exact (kept_grantWindowFalls _ _).stepped
  case completionWindow => exact (kept_completionWindowFalls _ _).stepped
  case qualificationDeadline => exact (kept_qualificationFalls _ _ _).stepped
  case restartDeadline => exact (kept_restartFalls _ _).stepped
  case restartCreditDeadline => exact (kept_restartCreditFalls _ _).stepped
  case heartbeatDeadline => exact (kept_heartbeatFalls _ _).stepped
  case absenceDeadline => exact (kept_absenceFalls _ _).stepped
  case overdueDeadline => exact (kept_overdueFalls _ _).stepped
  case acknowledgementDeadline => exact (kept_escalate _ _ _).stepped
  case workDeadline => exact (kept_escalate _ _ _).stepped
  case rollDeadline => exact stepped_rollFalls _

/-- A command keeps the invariants of its records, but where it is a cold start or the passing of a second. -/
theorem stepped_of_leaves {c : Instr} {s : State} {r : Records} (h : Leaves c s r) :
    Stepped s.toRecords r
      ∨ ((∃ order, c = .mainPowerRise order) ∧ s.lnk.mainPower = false ∧ s.lnk.retention = false ∧ r = Records.cold)
      ∨ c = .uptimeTick ∧ r = { s.toRecords with fck := { s.fck with uptime := saturate (s.fck.uptime + 1) } } := by
  cases h with
  | same => exact .inl (.refl _)
  | request => exact .inl (stepped_requestWork c s.work)
  | event hc => exact .inl (stepped_eventWork hc s.work)
  | warm => exact .inl (stepped_warmWork _ s.work)
  | cold hc power lost => exact .inr (.inl ⟨⟨_, hc⟩, power, lost, rfl⟩)
  | tick hc => exact .inr (.inr ⟨hc, rfl⟩)

end Sys2Proof.Laws
end

section
/-! PROOF. The invariants of single blocks (R20, R26, R168 to R171) and of the link (R176 to R186), kept by every step; the one
reply of a request (R179); uptime (R168). -/

namespace Sys2Proof.Laws

open Sys2Proof.Machine Sys2Proof.Safety

/-! ### The link's invariant -/

/-- A change of the link that reaches no notice. -/
theorem NoticesSound.congr {l l' : Lnk} (h : NoticesSound l) (notices : l'.notices = l.notices) (owed : l'.owed = l.owed) :
    NoticesSound l' := by
  obtain ⟨h1, h2, h3, h4⟩ := h
  exact ⟨notices ▸ h1, owed ▸ h2, by rwa [notices, owed], by rwa [notices, owed]⟩

theorem replyRoom_iff (l : Lnk) : l.replyRoom = true ↔ l.replies.length < 32 :=
  decide_eq_true_iff

/-- A link whose lines have just settled is sound where its queues are (R176, R183). -/
theorem linkSound_of_settled {t : State} {l : Lnk} (settled : t.lnk = l.settleLines t.cou.alarm)
    (requests : l.requests.length ≤ 16) (replies : l.replies.length ≤ 32) (sound : NoticesSound l) : LinkSound t := by
  constructor <;> rw [settled]
  case requests => exact requests
  case replies => exact replies
  case notices => exact sound.notices
  case owed => exact sound.owed
  case owedBehindFull => exact sound.owedBehindFull
  case keysOnce => exact sound.keysOnce
  all_goals rfl

theorem noticesSound_of_linkSound {s : State} (h : LinkSound s) : NoticesSound s.lnk :=
  ⟨h.notices, h.owed, h.owedBehindFull, h.keysOnce⟩

theorem noticesSound_prepare (l : Lnk) (kind : StartKind) : NoticesSound (l.prepare kind) :=
  ⟨Nat.zero_le _, Nat.zero_le _, fun h => absurd rfl h, List.nodup_nil⟩

theorem linkSound_linkReset (s : State) : LinkSound s.linkReset := by
  refine linkSound_of_settled rfl ?_ ?_ ((noticesSound_prepare s.lnk .link).place _)
  all_goals rw [place_frame]; exact Nat.zero_le _

theorem linkSound_coldStart (s : State) : LinkSound s.coldStart := by
  have sound : NoticesSound (s.lnk.powered .cold) := (noticesSound_prepare s.lnk .cold).congr rfl rfl
  refine linkSound_of_settled rfl ?_ ?_ (sound.place (startNotice .cold 0 false none))
  all_goals rw [place_frame]; exact Nat.zero_le _

/-- A handling that is committed leaves a sound link (R181). -/
theorem linkSound_commit {s : State} (w : Work) (requests : s.lnk.requests.length ≤ 16) (replies : s.lnk.replies.length ≤ 32)
    (sound : NoticesSound s.lnk) : LinkSound (s.commit w) := by
  refine linkSound_of_settled rfl ?_ ?_ (sound.placeAll w.raised)
  · rw [placeAll_requests]; exact requests
  · rw [placeAll_replies]; exact replies

theorem linkSound_takeEvent {s : State} (h : LinkSound s) (f : Work → Work) : LinkSound (takeEvent f s) := by
  unfold takeEvent
  split
  · exact linkSound_commit _ h.requests h.replies (noticesSound_of_linkSound h)
  · exact h

theorem linkSound_carryOut {s : State} (code : Nat) (tag : Tag) (f : Work → Work × Answer)
    (requests : s.lnk.requests.length ≤ 16) (room : s.lnk.replyRoom = true) (sound : NoticesSound s.lnk) :
    LinkSound (carryOut code tag f s) := by
  have fits := (replyRoom_iff _).mp room
  have placed := sound.placeAll (f s.work).1.raised
  refine linkSound_of_settled rfl ?_ ?_ ⟨placed.notices, placed.owed, placed.owedBehindFull, placed.keysOnce⟩
  · simp only [Lnk.reply, placeAll_requests]; exact requests
  · simp only [Lnk.reply, placeAll_replies, List.length_append, List.length_singleton]; omega

theorem linkSound_takeRequest {s : State} (h : LinkSound s) (c : Instr) (code : Nat) (tag : Tag) (f : Work → Work × Answer) :
    LinkSound (takeRequest c code tag f s) := by
  have sound := noticesSound_of_linkSound h
  unfold takeRequest
  split
  · exact h
  split
  · split
    · exact h
    split
    · exact linkSound_carryOut code tag f h.requests ‹_› sound
    · exact linkSound_of_settled rfl (by simp) h.replies (sound.congr rfl rfl)
  · rename_i entry rest queued
    split
    · rename_i taken
      have shorter : rest.length ≤ 16 := by have := h.requests; rw [queued, List.length_cons] at this; omega
      exact linkSound_carryOut code tag f shorter taken.2 (sound.congr rfl rfl)
    · exact h

/-- A state in which no queue, line or condition of a line has changed is as sound. -/
theorem linkSound_of_dataOut {s : State} (h : LinkSound s) (bytes : List Byte) :
    LinkSound { s with lnk := { s.lnk with dataOut := bytes } } := { h with }

theorem linkSound_pending {s : State} (h : LinkSound s) (rest : List Instr) : LinkSound { s with pending := rest } := { h with }

theorem linkSound_transact {s : State} (h : LinkSound s) (clocked : Nat) (defined : Lnk → List Byte) {f : Lnk → Lnk}
    (requests : ∀ l : Lnk, l.requests.length ≤ 16 → (f l).requests.length ≤ 16)
    (replies : ∀ l : Lnk, l.replies.length ≤ 32 → (f l).replies.length ≤ 32)
    (sound : ∀ l : Lnk, NoticesSound l → NoticesSound (f l)) : LinkSound (transact clocked defined f s) := by
  unfold transact
  split
  · exact linkSound_of_settled rfl (requests _ h.requests) (replies _ h.replies)
      (sound _ ((noticesSound_of_linkSound h).congr rfl rfl))
  · exact linkSound_of_dataOut h _

theorem takeFrame_requests (bytes : List Byte) (l : Lnk) (h : l.requests.length ≤ 16) :
    (l.takeFrame bytes).requests.length ≤ 16 := by
  unfold Lnk.takeFrame
  split
  · rename_i ready
    have room : l.requests.length + 4 ≤ 16 := by
      simpa [readyLine, Config.readyRoom, Config.requestQueue] using (Bool.and_eq_true_iff.mp ready).2
    have := frameEntries_length bytes
    simp only [List.length_append]
    omega
  · exact h

theorem linkSound_writeFrame {s : State} (h : LinkSound s) (bytes : List Byte) :
    LinkSound (transact bytes.length (fun _ => []) (Lnk.takeFrame bytes) s) := by
  refine linkSound_transact h _ _ (takeFrame_requests bytes) (fun l hl => ?_) (fun l hl => ?_)
  · unfold Lnk.takeFrame; split <;> exact hl
  · unfold Lnk.takeFrame; split <;> exact hl.congr rfl rfl

theorem linkSound_readReply {s : State} (h : LinkSound s) (clocked : Nat) :
    LinkSound (transact clocked replyRecord (Lnk.takeReply clocked) s) := by
  refine linkSound_transact h _ _ (fun l hl => ?_) (fun l hl => ?_) (fun l hl => ?_) <;> unfold Lnk.takeReply
  · split
    · exact hl
    · split <;> exact hl
  · split
    · exact hl
    · rename_i r rest queued
      split
      · rw [queued, List.length_cons] at hl; exact Nat.le_of_succ_le hl
      · exact hl
  · split
    · exact hl
    · split <;> exact hl.congr rfl rfl

theorem linkSound_readNotice {s : State} (h : LinkSound s) (clocked : Nat) :
    LinkSound (transact clocked noticeRecord (Lnk.takeNotice clocked) s) := by
  refine linkSound_transact h _ _ (fun l hl => ?_) (fun l hl => ?_) (fun l hl => hl.takeNotice clocked)
  all_goals
    unfold Lnk.takeNotice
    split
    · exact hl
    · split <;> exact hl

theorem linkSound_readLinkStatus {s : State} (h : LinkSound s) (clocked : Nat) :
    LinkSound (transact clocked (statusRecord s.fck.clockSet) (Lnk.takeStatus clocked) s) := by
  refine linkSound_transact h _ _ (fun l hl => ?_) (fun l hl => ?_) (fun l hl => ?_) <;> unfold Lnk.takeStatus <;> split
  all_goals first | exact hl | exact hl.congr rfl rfl

theorem linkSound_setAttentionMask {s : State} (h : LinkSound s) (bytes : List Byte) :
    LinkSound (transact bytes.length (fun _ => []) (Lnk.takeMask bytes) s) := by
  refine linkSound_transact h _ _ (fun l hl => ?_) (fun l hl => ?_) (fun l hl => ?_) <;> cases bytes
  all_goals first | exact hl | exact hl.congr rfl rfl

theorem linkSound_malformedMarker {s t : State} (h : LinkSound s) (ht : execMalformedMarker s = .next t) : LinkSound t := by
  unfold execMalformedMarker at ht
  cases ht
  split
  · rename_i code tag offset discarded rest queued
    split
    · rename_i taken
      have sound := noticesSound_of_linkSound h
      have shorter : rest.length ≤ 16 := by have := h.requests; rw [queued, List.length_cons] at this; omega
      have fits := (replyRoom_iff _).mp (Bool.and_eq_true_iff.mp taken).2
      refine linkSound_of_settled rfl shorter ?_ (sound.congr rfl rfl)
      simp only [Lnk.reply, List.length_append, List.length_singleton]
      omega
    · exact h
  · exact h

theorem linkSound_mainPowerRise {s : State} (h : LinkSound s) (order : List StartWork) :
    LinkSound (if s.lnk.mainPower then s else if s.lnk.retention then s.warmStart order else s.coldStart) := by
  split
  · exact h
  split
  · have sound : NoticesSound (s.lnk.powered .warm) := (noticesSound_prepare s.lnk .warm).congr rfl rfl
    exact linkSound_commit (s := { s with lnk := s.lnk.powered .warm }) _ (Nat.zero_le _) (Nat.zero_le _) sound
  · exact linkSound_coldStart s

theorem linkSound_linkResetRelease {s : State} (h : LinkSound s) :
    LinkSound (if !s.lnk.linkResetHeld then s
      else
        let released : State := { s with lnk := { s.lnk with linkResetHeld := false } }
        if s.lnk.mainPower then released.linkReset else State.settleLines released) := by
  split
  · exact h
  dsimp only
  split
  · exact linkSound_linkReset _
  · exact linkSound_of_settled rfl h.requests h.replies ((noticesSound_of_linkSound h).congr rfl rfl)

/-- Every command leaves a sound link. -/
theorem linkSound_exec {c : Instr} {s t : State} (h : LinkSound s) (ht : exec c s = .next t) : LinkSound t := by
  have sound := noticesSound_of_linkSound h
  cases hq : c.request? with
  | some r =>
    rw [exec_request hq] at ht
    cases ht
    exact linkSound_takeRequest h _ _ _ _
  | none =>
    cases he : eventWork? c with
    | some f =>
      obtain h' | ⟨h', -⟩ := exec_event he s <;> (rw [h'] at ht; cases ht)
      · exact linkSound_takeEvent h f
      · exact h
    | none =>
      cases c
      case mainPowerRise order => cases ht; exact linkSound_mainPowerRise h order
      case mainPowerFall => cases ht; exact linkSound_of_settled rfl h.requests h.replies (sound.congr rfl rfl)
      case standbyPowerLoss => cases ht; exact { h with }
      case linkResetAssert => cases ht; exact linkSound_of_settled rfl h.requests h.replies (sound.congr rfl rfl)
      case linkResetRelease => cases ht; exact linkSound_linkResetRelease h
      case writeFrame => cases ht; exact linkSound_writeFrame h _
      case malformedMarker => exact linkSound_malformedMarker h ht
      case readReply => cases ht; exact linkSound_readReply h _
      case readNotice => cases ht; exact linkSound_readNotice h _
      case readLinkStatus => cases ht; exact linkSound_readLinkStatus h _
      case setAttentionMask => cases ht; exact linkSound_setAttentionMask h _
      case resync => cases ht; split; exacts [linkSound_linkReset _, linkSound_of_dataOut h _]
      case uptimeTick => cases ht; split; exacts [{ h with }, h]
      all_goals cases he <;> cases hq

end Sys2Proof.Laws

namespace Sys2Proof.Steps

open Sys2Proof.Machine Sys2Proof.Safety Sys2Proof.Laws

/-- Settles O4: every command leaves a sound link, by its form. -/
theorem stepKeepsLinkSound : Obligations.StepKeepsLinkSound := by
  intro s t sound h
  unfold step at h
  split at h
  · cases h; exact sound
  · rename_i c rest _
    exact linkSound_exec (linkSound_pending sound rest) h

/-- Settles O6. -/
theorem stepKeepsBalances : Obligations.StepKeepsBalances := by
  intro s t bounded h
  refine step_of_leaves (P := BalancesBounded) h bounded fun c rest _ r leaves => ?_
  obtain kept | ⟨-, -, -, rfl⟩ | ⟨-, rfl⟩ := stepped_of_leaves leaves
  · exact kept.balances bounded
  · exact ⟨by simp [Records.cold], by simp [Records.cold]⟩
  · exact { bounded with }

/-- Settles O7. -/
theorem stepKeepsSettings : Obligations.StepKeepsSettings := by
  intro s t inRange h
  refine step_of_leaves (P := SettingsInRange) h inRange fun c rest _ r leaves => ?_
  obtain kept | ⟨-, -, -, rfl⟩ | ⟨-, rfl⟩ := stepped_of_leaves leaves
  · exact kept.settings inRange
  · constructor <;> decide
  · exact { inRange with }

/-- Settles O8. -/
theorem stepKeepsClock : Obligations.StepKeepsClock := by
  intro s t sound h
  refine step_of_leaves (P := ClockSound) h sound fun c rest _ r leaves => ?_
  obtain kept | ⟨-, -, -, rfl⟩ | ⟨-, rfl⟩ := stepped_of_leaves leaves
  · exact kept.clock sound
  · constructor <;> decide
  · exact { sound with uptime := Nat.min_le_right _ _ }

/-- Settles O11. -/
theorem uptimeMovesByTickAlone : Obligations.UptimeMovesByTickAlone := by
  intro s t c h notTick
  obtain kept | ⟨rise, power, lost, cold⟩ | ⟨tick, -⟩ := stepped_of_leaves (exec_leaves h)
  · exact .inl kept.uptime
  · exact .inr ⟨rise, power, lost, by rw [cold]; rfl⟩
  · exact absurd tick notTick

/-- Settles O10: a request that is taken is its handling and one reply; one that is not taken leaves the state. -/
theorem everyRequestAnsweredOnce : Obligations.EveryRequestAnsweredOnce := by
  intro s c code tag hc
  refine ⟨fun taken => ⟨_, _, _, _, exec_worked taken hc rfl, ?_⟩, fun waits queued => ?_⟩
  · simp [answered, Lnk.settleLines, Lnk.reply]
  · rw [exec_request hc]
    unfold takeRequest
    split
    · rfl
    split
    · exact absurd ‹_› queued
    · rename_i entry rest head
      rw [if_neg]
      rintro ⟨rfl, room⟩
      have fits := (replyRoom_iff _).mp room
      obtain full | behind := waits
      · omega
      · exact behind (by rw [head]; rfl)

end Sys2Proof.Steps
end

section
/-! PROOF. The machine as a whole (reset, one step), the link's transactions and resets (R176 to R186), power and time (R168,
R185). -/

namespace Sys2Proof.Steps

open Sys2Proof.Machine Sys2Proof.Safety Sys2Proof.Laws

/-- Settles O1. -/
theorem stepTakesFrontCommand : Obligations.StepTakesFrontCommand :=
  fun s => ⟨fun c rest h => by simp only [step, h], fun h => by simp only [step, h]⟩

/-- Settles O2: the fields of `State.reset`, read off. -/
theorem resetValues : Obligations.ResetValues := by
  refine ⟨rfl, rfl, rfl, rfl, rfl, rfl, rfl, rfl, rfl, rfl, rfl, rfl, ?_⟩
  decide

/-- Every table is empty after reset. -/
theorem tablesSound_cold : TablesSound Records.cold where
  accounts := Rising.nil
  pools := Rising.nil
  jobs := Rising.nil
  lists := Rising.nil
  visits := Rising.nil
  inFlight := Rising.nil
  printers := Rising.nil
  slots := Rising.nil
  types := Rising.nil
  badges := List.nodup_nil

theorem recordsAgree_cold : RecordsAgree Records.cold where
  members := by constructor <;> simp [Records.cold]
  reserved := by constructor <;> simp [Records.cold]
  jobs := by constructor <;> simp [Records.cold]
  flight := by constructor <;> simp [Records.cold]
  visits := by constructor <;> simp [Records.cold]

theorem calloutsSound_cold : CalloutsSound Records.cold := by
  constructor <;> simp [Records.cold, causes]

theorem stockSound_cold : StockSound Records.cold := by
  constructor <;> simp [Records.cold, Table.lookup]

/-- Settles O3: no table holds a record, and every setting has its cold-start value. -/
theorem resetMeetsInvariants : Obligations.ResetMeetsInvariants := by
  refine ⟨?link, tablesSound_cold, ?counts, recordsAgree_cold, calloutsSound_cold, stockSound_cold, ?balances, ?settings,
    ?clock⟩
  case link => constructor <;> decide
  case counts => exact ⟨by simp [State.reset, Records.cold], Nat.zero_le _⟩
  case balances => constructor <;> simp [State.reset, Records.cold]
  case settings => constructor <;> decide
  case clock => constructor <;> decide

/-! ### Without main power -/

/-- What a command without main power leaves as it stood (R185). -/
structure Untouched (s t : State) : Prop where
  records : t.toRecords = s.toRecords
  pending : t.pending = s.pending
  power : t.lnk.mainPower = false
  requests : t.lnk.requests = s.lnk.requests
  replies : t.lnk.replies = s.lnk.replies
  notices : t.lnk.notices = s.lnk.notices
  owed : t.lnk.owed = s.lnk.owed
  mask : t.lnk.mask = s.lnk.mask
  lines : s.lnk.ready = false → s.lnk.attn = false → s.lnk.alarm = false →
    t.lnk.ready = false ∧ t.lnk.attn = false ∧ t.lnk.alarm = false

section
variable {s : State}

theorem Untouched.same (off : s.lnk.mainPower = false) : Untouched s s :=
  ⟨rfl, rfl, off, rfl, rfl, rfl, rfl, rfl, fun r a l => ⟨r, a, l⟩⟩

/-- Settled without main power, every line is deasserted. -/
theorem Untouched.settled {l : Lnk} (off : l.mainPower = false) (requests : l.requests = s.lnk.requests)
    (replies : l.replies = s.lnk.replies) (notices : l.notices = s.lnk.notices) (owed : l.owed = s.lnk.owed)
    (mask : l.mask = s.lnk.mask) : Untouched s (settled s l) where
  records := rfl
  pending := rfl
  power := off
  requests := requests
  replies := replies
  notices := notices
  owed := owed
  mask := mask
  lines := fun _ _ _ => by simp [Safety.settled, Lnk.settleLines, readyLine, attnLine, alarmLine, off]

/-- A transaction without main power is ignored. -/
theorem transact_of_no_power (off : s.lnk.mainPower = false) (clocked : Nat) (defined : Lnk → List Byte) (f : Lnk → Lnk) :
    transact clocked defined f s = s.ignoreTransaction clocked := by
  simp [transact, Lnk.takesTransaction, off]

theorem Untouched.ignored (off : s.lnk.mainPower = false) (clocked : Nat) : Untouched s (s.ignoreTransaction clocked) :=
  ⟨rfl, rfl, off, rfl, rfl, rfl, rfl, rfl, fun r a l => ⟨r, a, l⟩⟩

theorem takeRequest_of_no_power (off : s.lnk.mainPower = false) (c : Instr) (code : Nat) (tag : Tag)
    (f : Work → Work × Answer) : takeRequest c code tag f s = s := by
  simp [takeRequest, off]

theorem exec_of_no_power {c : Instr} (off : s.lnk.mainPower = false) (notRise : ∀ order, c ≠ .mainPowerRise order)
    (notTick : c ≠ .uptimeTick) : ∃ t, exec c s = .next t ∧ Untouched s t := by
  cases hq : c.request? with
  | some r => exact ⟨s, by rw [exec_request hq, takeRequest_of_no_power off], .same off⟩
  | none =>
    cases he : eventWork? c with
    | some f =>
      refine ⟨s, ?_, .same off⟩
      obtain h | ⟨h, -⟩ := exec_event he s
      · rw [h, takeEvent_of_no_power off]
      · exact h
    | none =>
      cases c
      case mainPowerRise order => exact absurd rfl (notRise order)
      case uptimeTick => exact absurd rfl notTick
      case mainPowerFall => exact ⟨_, rfl, .settled rfl rfl rfl rfl rfl rfl⟩
      case standbyPowerLoss => exact ⟨_, rfl, ⟨rfl, rfl, off, rfl, rfl, rfl, rfl, rfl, fun r a l => ⟨r, a, l⟩⟩⟩
      case linkResetAssert => exact ⟨_, rfl, .settled off rfl rfl rfl rfl rfl⟩
      case linkResetRelease =>
        cases held : s.lnk.linkResetHeld
        · exact ⟨s, by simp [exec, execLinkResetRelease, held], .same off⟩
        · exact ⟨_, congrArg Host.Outcome.next (by simp only [held, off, Bool.not_true, Bool.false_eq_true, if_false]; rfl),
            .settled (l := { s.lnk with linkResetHeld := false }) off rfl rfl rfl rfl rfl⟩
      case malformedMarker =>
        refine ⟨s, ?_, .same off⟩
        simp only [exec, execMalformedMarker, off, Bool.false_and, Bool.false_eq_true, if_false]
        split <;> rfl
      case resync n => exact ⟨_, by simp [exec, execResync, Lnk.takesTransaction, off], .ignored off n⟩
      case writeFrame bytes => exact ⟨_, congrArg Host.Outcome.next (transact_of_no_power off _ _ _), .ignored off _⟩
      case readReply n => exact ⟨_, congrArg Host.Outcome.next (transact_of_no_power off _ _ _), .ignored off n⟩
      case readNotice n => exact ⟨_, congrArg Host.Outcome.next (transact_of_no_power off _ _ _), .ignored off n⟩
      case readLinkStatus n => exact ⟨_, congrArg Host.Outcome.next (transact_of_no_power off _ _ _), .ignored off n⟩
      case setAttentionMask bytes => exact ⟨_, congrArg Host.Outcome.next (transact_of_no_power off _ _ _), .ignored off _⟩
      all_goals cases he <;> cases hq

end

/-- Settles O12. -/
theorem powerOffHolds : Obligations.PowerOffHolds := by
  intro s c off notRise notTick
  obtain ⟨t, h, u⟩ := exec_of_no_power off notRise notTick
  exact ⟨t, h, u.records, u.pending, u.power, u.requests, u.replies, u.notices, u.owed, u.mask, u.lines⟩

end Sys2Proof.Steps

namespace Sys2Proof.Link

open Sys2Proof.Machine Sys2Proof.Safety Sys2Proof.Laws

/-! ### Transactions that are taken, and those that are not -/

theorem returned_eq_sent (defined : List Byte) (clocked : Nat) : returned defined clocked = sent defined clocked := rfl

section
variable {s : State} (clocked : Nat) (defined : Lnk → List Byte) (f : Lnk → Lnk)

theorem transact_of_taken (power : s.lnk.mainPower = true) (free : s.lnk.linkResetHeld = false) :
    transact clocked defined f s = settled s (f { s.lnk with dataOut := sent (defined s.lnk) clocked }) := by
  rw [transact, if_pos (by simp [Lnk.takesTransaction, power, free])]
  rfl

theorem transact_of_held (power : s.lnk.mainPower = true) (held : s.lnk.linkResetHeld = true) :
    transact clocked defined f s = { s with lnk := { s.lnk with dataOut := sent [] clocked } } := by
  rw [transact, if_neg (by simp [Lnk.takesTransaction, held]), State.ignoreTransaction, power]
  rfl

end

theorem exec_readReply (n : Nat) (s : State) :
    exec (.readReply n) s = .next (transact n replyRecord (Lnk.takeReply n) s) := rfl

theorem exec_readNotice (n : Nat) (s : State) :
    exec (.readNotice n) s = .next (transact n noticeRecord (Lnk.takeNotice n) s) := rfl

theorem exec_readLinkStatus (n : Nat) (s : State) :
    exec (.readLinkStatus n) s = .next (transact n (statusRecord s.fck.clockSet) (Lnk.takeStatus n) s) := rfl

/-- No byte is defined, so every byte clocked returns 0x00. -/
theorem sent_nil (n : Nat) : sent [] n = List.replicate (n + 1) 0 := by
  simp only [sent, List.take_nil, List.length_nil, Nat.sub_zero, List.nil_append, List.replicate_succ]

/-- A transaction byte that names none of the six names no command. -/
theorem transactionOf_unnamed {b : Byte} (behind : List Byte) (h : b ∉ [0x31, 0x52, 0x4E, 0x53, 0x4D, 0x7E]) :
    transactionOf (b :: behind) = none := by
  simp only [List.mem_cons, List.not_mem_nil, or_false, not_or] at h
  have differs {v : Nat} (hv : v < 256) : b ≠ BitVec.ofNat 8 v → b.toNat ≠ v :=
    mt fun e => BitVec.eq_of_toNat_eq (by simp [e, Nat.mod_eq_of_lt hv])
  obtain ⟨h1, h2, h3, h4, h5, h6⟩ := h
  simp only [transactionOf]
  unfold transactionCommand
  split
  case h_7 => rfl
  · exact absurd ‹_› (differs (by decide) h1)
  · exact absurd ‹_› (differs (by decide) h2)
  · exact absurd ‹_› (differs (by decide) h3)
  · exact absurd ‹_› (differs (by decide) h4)
  · exact absurd ‹_› (differs (by decide) h5)
  · exact absurd ‹_› (differs (by decide) h6)

theorem transaction_unnamed {s : State} (power : s.lnk.mainPower = true) {b : Byte} (behind : List Byte)
    (h : b ∉ [0x31, 0x52, 0x4E, 0x53, 0x4D, 0x7E]) :
    transaction (b :: behind) s = .next { s with lnk := { s.lnk with dataOut := sent [] behind.length } } := by
  simp only [transaction, transactionOf_unnamed behind h, State.unnamedTransaction, power, if_true, sent_nil, List.map_cons,
    List.map_const', List.replicate_succ]

/-- Settles O15: each transaction by what it returns and what it leaves of the link. -/
theorem transactions : Obligations.Transactions := by
  intro s n power
  refine ⟨fun b behind => ⟨?_, ?_, ?_, ?_, ?_, ?_, transaction_unnamed power behind⟩, ?_, fun free =>
    ⟨fun none => ?_, fun r rest queued => ?_, fun none => ?_, fun r rest queued short => ?_,
      fun r rest queued whole => ?_, ?_, ?_, fun b rest => ?_⟩⟩
  iterate 6 (rintro rfl; rfl)
  · simp [transaction, transactionOf, State.unnamedTransaction, power]
  · rw [exec_readReply, transact_of_taken _ _ _ power free]
    simp [replyRecord, none, Lnk.takeReply, noneRecord]
  · rw [exec_readReply, transact_of_taken _ _ _ power free]
    simp only [replyRecord, queued, Lnk.takeReply]
    split <;> rfl
  · rw [exec_readNotice, transact_of_taken _ _ _ power free]
    simp [noticeRecord, none, Lnk.takeNotice, noneRecord]
  · rw [exec_readNotice, transact_of_taken _ _ _ power free]
    simp [noticeRecord, queued, Lnk.takeNotice, Nat.not_le.mpr short]
  · rw [exec_readNotice, transact_of_taken _ _ _ power free]
    simp [noticeRecord, queued, Lnk.takeNotice, whole]
  · rw [exec_readLinkStatus, transact_of_taken _ _ _ power free]
    obtain long | short := Nat.lt_or_ge n 6
    · simp [statusRecord, statusFlags, Lnk.takeStatus, Nat.not_le.mpr long, long]
    · simp [statusRecord, statusFlags, Lnk.takeStatus, short, Nat.not_lt.mpr short]
  · exact congrArg Host.Outcome.next (transact_of_taken _ _ _ power free)
  · exact congrArg Host.Outcome.next (transact_of_taken _ _ _ power free)

/-! ### Link resets -/

/-- The notice placed in an empty link is its only one. -/
theorem place_prepared (l : Lnk) (kind : StartKind) (r : Raised) :
    (l.prepare kind).place r = { l.prepare kind with notices := [{ notice := r, changes := 0 }] } :=
  place_of_room (by simp [KeyStands, Lnk.prepare]) (by simp [KeyStands, Lnk.prepare]) ⟨Nat.zero_lt_succ _, rfl⟩

theorem linkReset_eq (s : State) :
    s.linkReset = settled s { s.lnk.prepare .link with
      notices := [{ notice := startNotice .link s.fck.uptime s.fck.clockSet none, changes := 0 }] } := by
  rw [State.linkReset, place_prepared]
  rfl

/-- Settles O16. -/
theorem linkResets : Obligations.LinkResets := by
  intro s reset
  refine ⟨rfl, by simp [settled, Lnk.settleLines, readyLine], fun power held => ⟨?released, fun bytes n =>
    ⟨?_, ?_, ?_, ?_, ?_, ?resyncHeld⟩⟩, fun power free n => ?resync, fun free => ?notHeld⟩
  case released =>
    simp only [exec, execLinkResetRelease, held, Bool.not_true, Bool.false_eq_true, if_false]
    rw [if_pos power, linkReset_eq]
    rfl
  case resyncHeld => simp [exec, execResync, Lnk.takesTransaction, held, State.ignoreTransaction, power, returned_eq_sent]
  case resync =>
    simp only [exec, execResync]
    rw [if_pos (by simp [Lnk.takesTransaction, power, free]), linkReset_eq]
    rfl
  case notHeld => simp [exec, execLinkResetRelease, free]
  all_goals exact congrArg Host.Outcome.next (transact_of_held _ _ _ power held)

/-- Settles O17. -/
theorem malformedMarkerAnswered : Obligations.MalformedMarkerAnswered := by
  intro s code tag offset discarded rest queued power
  refine ⟨fun room => ?_, fun full => ?_⟩
  · simp only [exec, execMalformedMarker, queued, power, (replyRoom_iff _).mpr room, Bool.and_self, if_true]
    rfl
  · have noRoom : s.lnk.replyRoom = false := decide_eq_false (Nat.not_lt.mpr full)
    simp [exec, execMalformedMarker, queued, noRoom]

/-! ### Power and time -/

theorem coldStart_eq (s : State) :
    s.coldStart = { s with
      toRecords := Records.cold
      lnk := { State.reset.lnk with
        linkResetHeld := s.lnk.linkResetHeld, ready := !s.lnk.linkResetHeld, dataOut := s.lnk.dataOut } } := by
  have placed : (s.lnk.powered .cold).place (startNotice .cold 0 false none) =
      { s.lnk.powered .cold with notices := [{ notice := startNotice .cold 0 false none, changes := 0 }] } :=
    place_of_room (by simp [KeyStands, Lnk.powered, Lnk.prepare]) (by simp [KeyStands, Lnk.powered, Lnk.prepare])
      ⟨Nat.zero_lt_succ _, rfl⟩
  rw [State.coldStart, placed]
  simp [State.settleLines, Lnk.settleLines, readyLine, attnLine, alarmLine, State.reset, Records.cold, Lnk.powered, Lnk.prepare,
    startNotice, Raised.coldStart, noticeEnabled, NoticeKind.classBit, Config.readyRoom, Config.requestQueue, StartKind.code,
    u8, u32, flag, opt]

/-- Settles O19. -/
theorem coldStartPowerAndTime : Obligations.ColdStartPowerAndTime := by
  refine fun s => ⟨fun off lost order => ?cold, rfl, rfl, fun supplied => ?tick, fun on order => ?on⟩
  case cold =>
    simp only [exec, execMainPowerRise, off, lost, Bool.false_eq_true, if_false]
    exact congrArg _ (coldStart_eq s)
  case tick => simp [exec, execUptimeTick, supplied, saturate, Config.maxCount]
  case on => simp [exec, execMainPowerRise, on]

end Sys2Proof.Link
end

section
/-! PROOF. Frames (R177, R178, R187): the items of a body, one request, and a frame of requests are read back as they were written;
what breaks a rule is one marker. -/

namespace Sys2Proof.Frames

open Sys2Proof.Machine Sys2Proof.Safety Sys2Proof.Laws

/-! ### The items of a body -/

/-- The items that `writeItems` writes. -/
def itemsOf : Nat → List (Option (List Byte)) → List Item
  | _, [] => []
  | number, none :: rest => itemsOf (number + 1) rest
  | number, some v :: rest => (number, v) :: itemsOf (number + 1) rest

/-- A field meets its rule: it is carried where it is required, at a length that its kind and the length byte allow. -/
def Meets (rule : FieldRule) : Option (List Byte) → Prop
  | none => rule.required = false
  | some v => rule.kind.allows v.length = true ∧ v.length < 256

theorem itemsOf_ge {number : Nat} {fields : List (Option (List Byte))} {e : Item} (h : e ∈ itemsOf number fields) :
    number ≤ e.1 := by
  induction fields generalizing number with
  | nil => cases h
  | cons f rest ih =>
    cases f with
    | none => exact Nat.le_of_succ_le (ih h)
    | some v =>
      rcases List.mem_cons.mp h with rfl | h
      · exact Nat.le_refl _
      · exact Nat.le_of_succ_le (ih h)

/-- The value of a field is what stands at its place. -/
theorem itemValue_itemsOf (number k : Nat) (fields : List (Option (List Byte))) :
    itemValue (itemsOf number fields) (number + k) = (fields[k]?).join := by
  induction fields generalizing number k with
  | nil => simp [itemsOf, itemValue]
  | cons f rest ih =>
    have next := fun k => ih (number + 1) k
    cases k with
    | zero =>
      cases f with
      | none =>
        have : ∀ e ∈ itemsOf (number + 1) rest, ¬ (e.1 == number) = true := fun e he => by
          have := itemsOf_ge he
          simp only [beq_iff_eq]; omega
        simpa [itemsOf, itemValue, List.find?_eq_none] using this
      | some v => simp [itemsOf, itemValue]
    | succ k =>
      have h := next k
      rw [show number + 1 + k = number + (k + 1) by omega] at h
      cases f with
      | none => simpa [itemsOf] using h
      | some v =>
        have differs : (number == number + (k + 1)) = false := by simp
        simpa [itemsOf, itemValue, List.find?_cons, differs] using h

theorem itemValue_eq (fields : List (Option (List Byte))) {n : Nat} (h : 1 ≤ n) :
    itemValue (itemsOf 1 fields) n = (fields[n - 1]?).join := by
  have := itemValue_itemsOf 1 (n - 1) fields
  rwa [Nat.add_sub_cancel' h] at this

/-- A number beyond those seen has no value yet. -/
theorem itemValue_of_seen {seen : List Item} {number : Nat} (h : ∀ e ∈ seen, e.1 < number) : itemValue seen number = none := by
  have : seen.find? (fun i => i.1 == number) = none := List.find?_eq_none.mpr fun e he => by
    have := h e he
    simp only [beq_iff_eq]; omega
  rw [itemValue, this]
  rfl

theorem toNat_ofNat_of_lt {n : Nat} (h : n < 256) : (BitVec.ofNat 8 n).toNat = n := by
  rw [BitVec.toNat_ofNat, Nat.mod_eq_of_lt h]

theorem beBytes_one (v : Nat) : beBytes 1 v = [BitVec.ofNat 8 v] := by simp [beBytes]

/-- The reading of items that were written, behind those already seen. -/
theorem readItems_writeItems {rules : List FieldRule} {number : Nat} {fields : List (Option (List Byte))}
    (positive : 1 ≤ number) (short : number + fields.length ≤ 256)
    (meets : ∀ k (h : k < fields.length), ∃ rule, rules[number - 1 + k]? = some rule ∧ Meets rule fields[k])
    (fuel offset : Nat) (enough : (writeItems number fields).length ≤ fuel) (seen : List Item) (below : ∀ e ∈ seen, e.1 < number) :
    readItems rules fuel offset seen (writeItems number fields) = .ok (seen ++ itemsOf number fields) := by
  induction fields generalizing number fuel offset seen with
  | nil => cases fuel <;> simp [writeItems, readItems, itemsOf]
  | cons f rest ih =>
    have meetsRest : ∀ k (h : k < rest.length), ∃ rule, rules[number + 1 - 1 + k]? = some rule ∧ Meets rule rest[k] := by
      intro k h
      obtain ⟨rule, at_, met⟩ := meets (k + 1) (by simp [h])
      exact ⟨rule, by rw [← at_]; congr 1; omega, met⟩
    have shortRest : number + 1 + rest.length ≤ 256 := by simp only [List.length_cons] at short; omega
    cases f with
    | none =>
      simpa only [writeItems, itemsOf] using ih (Nat.le_succ_of_le positive) shortRest meetsRest fuel offset enough seen
        (fun e he => Nat.lt_succ_of_lt (below e he))
    | some v =>
      obtain ⟨rule, at_, allowed, fits⟩ := meets 0 (by simp)
      have numberByte : (BitVec.ofNat 8 number).toNat = number := toNat_ofNat_of_lt (by simp only [List.length_cons] at short; omega)
      have lengthByte : (BitVec.ofNat 8 v.length).toNat = v.length := toNat_ofNat_of_lt fits
      simp only [writeItems, beBytes_one, List.cons_append, List.nil_append, List.length_cons, List.length_append] at enough ⊢
      obtain ⟨fuel, rfl⟩ : ∃ k, fuel = k + 1 := ⟨fuel - 1, by omega⟩
      have more := ih (number := number + 1) (Nat.le_succ_of_le positive) shortRest meetsRest fuel (offset + 2 + v.length) (by omega)
        (seen ++ [(number, v)]) (fun e he => by
          rcases List.mem_append.mp he with he | he
          · exact Nat.lt_succ_of_lt (below e he)
          · rw [List.mem_singleton.mp he]; exact Nat.lt_succ_self _)
      rw [readItems]
      simp only [numberByte, lengthByte, show rules[number - 1]? = some rule from at_, itemValue_of_seen below, allowed,
        List.take_left, List.drop_left, List.length_append]
      rw [if_neg (by omega), if_neg (by simp), if_neg (by simp), if_neg (by omega), more]
      simp [itemsOf]

/-- The fields of a body meet the rules of its request, one by one. -/
def FieldsMeet (rules : List FieldRule) (fields : List (Option (List Byte))) : Prop := List.Forall₂ Meets rules fields

theorem FieldsMeet.read {rules : List FieldRule} {fields : List (Option (List Byte))} (h : FieldsMeet rules fields)
    (short : fields.length ≤ 255) (offset : Nat) :
    readItems rules (writeItems 1 fields).length offset [] (writeItems 1 fields) = .ok (itemsOf 1 fields) := by
  have := readItems_writeItems (rules := rules) (number := 1) (fields := fields) (Nat.le_refl _) (by omega)
    (fun k hk => ⟨rules[k]'(by rw [h.length_eq]; exact hk), by simp [h.length_eq, hk],
      List.Forall₂.get h (by rw [h.length_eq]; exact hk) hk⟩)
    (writeItems 1 fields).length offset (Nat.le_refl _) [] (by simp)
  simpa using this

theorem FieldsMeet.allRequired {rules : List FieldRule} {fields : List (Option (List Byte))} (h : FieldsMeet rules fields) :
    allRequired rules (itemsOf 1 fields) = true := by
  rw [Sys2Proof.allRequired, List.all_eq_true]
  rintro ⟨rule, n⟩ he
  obtain ⟨i, hi, at_, rfl⟩ : ∃ i, ∃ hi : i < rules.length, rules[i] = rule ∧ n = 1 + i := by
    obtain ⟨hge, hlt, at_⟩ := List.mem_zipIdx he
    exact ⟨n - 1, by omega, at_.symm, by omega⟩
  have hf : i < fields.length := by rw [← h.length_eq]; exact hi
  have met : Meets rules[i] fields[i] := List.Forall₂.get h hi hf
  rw [at_] at met
  rw [itemValue_itemsOf, List.getElem?_eq_getElem hf]
  cases hv : fields[i] with
  | none => rw [hv] at met; simp [show rule.required = false from met]
  | some v => simp

/-! ### Values -/

theorem beNat_of_fits {w v : Nat} (h : fits w v = true) : beNat (beBytes w v) = v := by
  rw [beNat_beBytes, Nat.mod_eq_of_lt (of_decide_eq_true h)]

theorem map_picked {w : Nat} {o : Option Nat} (h : fitsOpt w o = true) : (picked w o).map beNat = o := by
  cases o with
  | none => rfl
  | some v => exact congrArg some (beNat_of_fits h)

theorem optionalValue_optBytes {w : Nat} {o : Option Nat} (h : fitsOpt (w + 1) o = true) :
    optionalValue (optBytes (w + 1) o) = o := by
  cases o with
  | none => rfl
  | some v => simp only [optionalValue, optBytes, beBytes, List.isEmpty_cons, Bool.false_eq_true, if_false]
              exact congrArg some (beNat_of_fits h)

theorem map_pickedOpt {w : Nat} {o : Option (Option Nat)} (h : fitsOptOpt (w + 1) o = true) :
    (pickedOpt (w + 1) o).map optionalValue = o := by
  cases o with
  | none => rfl
  | some v => exact congrArg some (optionalValue_optBytes h)

/-- Two's complement in four bytes (R187). -/
theorem beInt_of_fitsSigned {n : Int} (h : fitsSigned n = true) : beInt (beBytes 4 (n % 4294967296).toNat) = n := by
  simp only [fitsSigned, Bool.and_eq_true, decide_eq_true_eq] at h
  have value : beNat (beBytes 4 (n % 4294967296).toNat) = (n % 4294967296).toNat := beNat_of_fits (by simp [fits]; omega)
  simp only [beInt, value, length_beBytes]
  split <;> omega

/-- The byte of a terminal key (R64). -/
theorem beNat_key {v : Nat} (h : v < 6) : beNat (beBytes 1 v) = v := beNat_of_fits (decide_eq_true (by omega))

theorem toNat_head_beBytes {v : Nat} (h : fits 1 v = true) (hl : 0 < (beBytes 1 v).length) :
    ((beBytes 1 v)[0]'hl).toNat = v := by
  simp only [beBytes_one, List.getElem_cons_zero, toNat_ofNat_of_lt (of_decide_eq_true h)]

theorem toNat_beBytes_one {v : Nat} (h : fits 1 v = true) : (beBytes 1 v).map (·.toNat) = [v] := by
  rw [beBytes_one, List.map_singleton, toNat_ofNat_of_lt (of_decide_eq_true h)]

theorem map_toNat_run {l : List Nat} (h : l.all (fits 1) = true) : (l.flatMap (beBytes 1)).map (·.toNat) = l := by
  induction l with
  | nil => rfl
  | cons v rest ih =>
    obtain ⟨hv, hr⟩ := Bool.and_eq_true_iff.mp h
    rw [List.flatMap_cons, List.map_append, toNat_beBytes_one hv, ih hr]
    rfl

theorem length_run (l : List Nat) : (l.flatMap (beBytes 1)).length = l.length := by
  induction l with
  | nil => rfl
  | cons v rest ih => rw [List.flatMap_cons, List.length_append, length_beBytes, ih, List.length_cons, Nat.add_comm]

/-! ### One request -/

section
variable {c : Instr} {code : Nat} {tag : Tag}

theorem request_code_lt (h : c.request? = some (code, tag)) : code < 128 := by
  cases c <;> cases h <;> decide

theorem length_fields_le (c : Instr) : c.fields.length ≤ 11 := by
  cases c <;> simp only [Instr.fields, SupplySettings.fields, List.length_append, List.length_cons, List.length_nil] <;> decide

end

/-! The fields that requests carry meet the rules that name them. -/

theorem meets_must (w v : Nat) (h : w < 256) : Meets (must w) (num w v) := by
  simp [Meets, must, num, FieldKind.allows, h]

theorem meets_may (w : Nat) (o : Option Nat) (h : w < 256) : Meets (may w) (picked w o) := by
  cases o <;> simp [Meets, may, picked, FieldKind.allows, h]

theorem length_optBytes (w : Nat) (o : Option Nat) : (optBytes w o).length = 0 ∨ (optBytes w o).length = w := by
  cases o <;> simp [optBytes]

theorem meets_mustOpt (w : Nat) (o : Option Nat) (h : w < 256) : Meets (mustOpt w) (some (optBytes w o)) := by
  obtain e | e := length_optBytes w o <;> simp [Meets, mustOpt, FieldKind.allows, e, h]

theorem meets_mayOpt (w : Nat) (o : Option (Option Nat)) (h : w < 256) : Meets (mayOpt w) (pickedOpt w o) := by
  cases o with
  | none => rfl
  | some o => obtain e | e := length_optBytes w o <;> simp [Meets, mayOpt, pickedOpt, FieldKind.allows, e, h]

theorem meets_target (kind number : Nat) : Meets (must 2) (some (beBytes 1 kind ++ beBytes 1 number)) := by
  simp [Meets, must, FieldKind.allows]

theorem meets_run {l : List Nat} (h : l.length ≤ 255) : Meets ⟨.run, true⟩ (some (l.flatMap (beBytes 1))) := by
  simp only [Meets, FieldKind.allows, length_run, true_and]
  omega

/-- The fields of every well-formed request meet the rules of its code. -/
theorem fieldsMeet_request {c : Instr} {code : Nat} {tag : Tag} (hc : c.request? = some (code, tag))
    (wf : c.fieldsFit = true) : ∃ rules, requestFields code = some rules ∧ FieldsMeet rules c.fields := by
  cases c <;> cases hc
  case statusReport =>
    simp only [Instr.fieldsFit, Bool.and_eq_true, decide_eq_true_eq] at wf
    exact ⟨_, rfl, .cons (meets_must _ _ (by decide)) (.cons (meets_must _ _ (by decide)) (.cons (meets_run wf.1.2) .nil))⟩
  all_goals
    refine ⟨_, rfl, ?_⟩
    simp [FieldsMeet, Instr.fields, SupplySettings.fields, meets_must, meets_may, meets_mustOpt, meets_mayOpt, meets_target]

/-! The values of the fields by their place. -/

section
variable {fields : List (Option (List Byte))} {n : Nat} (h : 1 ≤ n)
include h

theorem itemNat_eq : itemNat (itemsOf 1 fields) n = beNat (((fields[n - 1]?).join).getD []) := by
  rw [itemNat, itemValue_eq fields h]

theorem itemInt_eq : itemInt (itemsOf 1 fields) n = beInt (((fields[n - 1]?).join).getD []) := by
  rw [itemInt, itemValue_eq fields h]

theorem itemSel_eq : itemSel (itemsOf 1 fields) n = ((fields[n - 1]?).join).map beNat := by
  rw [itemSel, itemValue_eq fields h]

theorem itemOpt_eq : itemOpt (itemsOf 1 fields) n = optionalValue (((fields[n - 1]?).join).getD []) := by
  rw [itemOpt, itemValue_eq fields h]

theorem itemSelOpt_eq : itemSelOpt (itemsOf 1 fields) n = ((fields[n - 1]?).join).map optionalValue := by
  rw [itemSelOpt, itemValue_eq fields h]

theorem itemByte_eq (k : Nat) :
    itemByte (itemsOf 1 fields) n k = (((((fields[n - 1]?).join).getD [])[k]?).getD 0).toNat := by
  rw [itemByte, itemValue_eq fields h]

end

/-- A well-formed request's code, tag and items stand for the request itself: no bit of its encoding is dropped. -/
theorem requestCommand_itemsOf {c : Instr} {code : Nat} {tag : Tag} (hc : c.request? = some (code, tag))
    (wf : c.fieldsFit = true) : requestCommand tag (itemsOf 1 c.fields) code = c := by
  cases c <;> cases hc
  all_goals
    simp only [Instr.fieldsFit, AccountOpen.wf, AccountSet.wf, JobSubmit.wf, PagesDone.wf, ReleaseConfig.wf, PrinterAdd.wf,
      PrinterSet.wf, HealthConfig.wf, SupplySettings.wf, CalloutConfig.wf, Bool.and_eq_true] at wf
    simp [requestCommand, keyCommand, Instr.fields, SupplySettings.fields, itemNat_eq, itemInt_eq, itemSel_eq, itemOpt_eq,
      itemSelOpt_eq, itemByte_eq, itemValue_eq, num, wf, beNat_of_fits, beNat_key, beInt_of_fitsSigned, map_picked,
      optionalValue_optBytes, map_pickedOpt, toNat_head_beBytes, map_toNat_run]

end Sys2Proof.Frames
end

section
/-! PROOF. Frames, continued: one request behind the bytes before it, and the frame as a whole (R177, R178). -/

namespace Sys2Proof.Frames

open Sys2Proof.Machine Sys2Proof.Safety Sys2Proof.Laws

/-! ### Reading one request -/

/-- The bytes that a request takes in a frame; a command that is no request takes none. -/
def chainedBytes (c : Instr) : List Byte :=
  match c.request? with
  | none => []
  | some (code, tag) => c.bytes code tag true

/-- A request that a frame can carry. -/
def Carried (c : Instr) : Prop := c.wf = true ∧ c.request? ≠ none

theorem beNat_cons_pair {a b : Byte} {n : Nat} (h : [a, b] = beBytes 2 n) (small : n < 65536) : beNat [a, b] = n := by
  rw [h, beNat_beBytes, Nat.mod_eq_of_lt (by simpa using small)]

theorem beBytes_two (n : Nat) : beBytes 2 n = [BitVec.ofNat 8 (n / 256), BitVec.ofNat 8 n] := by simp [beBytes]

/-- A body behind its length is read, with what follows it. -/
theorem readBody_append {body follows : List Byte} (small : body.length < 65536) :
    readBody (beBytes 2 body.length ++ body ++ follows) = some (body, follows) := by
  have length : beNat [BitVec.ofNat 8 (body.length / 256), BitVec.ofNat 8 body.length] = body.length :=
    beNat_cons_pair (beBytes_two _).symm small
  simp only [beBytes_two, List.cons_append, List.nil_append, readBody, length]
  rw [if_neg (by simp), List.take_left, List.drop_left]

/-- A tag behind its length is read, with what follows it. -/
theorem readTag_append {tag : Tag} (short : tag.length ≤ 6) (offset : Nat) (behind : List Byte) :
    readTag offset (BitVec.ofNat 8 tag.length :: (tag ++ behind)) = .ok (tag, behind) := by
  simp only [readTag, toNat_ofNat_of_lt (show tag.length < 256 by omega)]
  rw [if_neg (by omega), if_neg (by simp), List.take_left, List.drop_left]

/-- A well-formed request is read back, and says whether another follows. -/
theorem readRequest_bytes {c : Instr} {code : Nat} {tag : Tag} (hc : c.request? = some (code, tag)) (wf : c.wf = true)
    {chained : Bool} {follows : List Byte} (follow : chained = !follows.isEmpty)
    (small : (writeItems 1 c.fields).length < 65536) (frame : List Byte) {place : Nat} (early : chained = true → place < 3)
    (offset : Nat) :
    readRequest frame place offset (c.bytes code tag chained ++ follows) =
      (.request c, if chained then some follows else none) := by
  simp only [Instr.wf, Instr.tagOk, hc, tagFits, Bool.and_eq_true, decide_eq_true_eq] at wf
  obtain ⟨shortTag, fit⟩ := wf
  obtain ⟨rules, known, meets⟩ := fieldsMeet_request hc fit
  have codeLt := request_code_lt hc
  have header : (BitVec.ofNat 8 (code + 128 * chained.toNat)).toNat = code + 128 * chained.toNat :=
    toNat_ofNat_of_lt (by have := Bool.toNat_le chained; omega)
  have codeOf : (code + 128 * chained.toNat) % 128 = code := by omega
  have chainOf : 128 ≤ code + 128 * chained.toNat ↔ chained = true := by cases chained <;> (simp; try omega)
  have bytes : c.bytes code tag chained ++ follows =
      BitVec.ofNat 8 (code + 128 * chained.toNat) :: BitVec.ofNat 8 tag.length ::
        (tag ++ (beBytes 2 (writeItems 1 c.fields).length ++ writeItems 1 c.fields ++ follows)) := by
    simp [Instr.bytes, beBytes_one]
  rw [bytes, readRequest]
  simp only [header, codeOf, chainOf, readTag_append shortTag, known, readBody_append small,
    meets.read (Nat.le_trans (length_fields_le c) (by decide)), meets.allRequired, requestCommand_itemsOf hc fit]
  rw [if_neg (fun h => absurd h.2 (by have := early h.1; simp only [Config.frameRequests]; omega)), if_neg (by simp),
    if_neg (by cases follows <;> simp [follow])]

/-! ### A frame of requests -/

theorem length_body_le (c : Instr) (code : Nat) (tag : Tag) (chained : Bool) :
    (writeItems 1 c.fields).length ≤ (c.bytes code tag chained).length := by
  simp only [Instr.bytes, List.length_append]
  omega

/-- Well-formed requests before the rest of a frame are read as they are, and the rest behind them. -/
theorem splitRequests_chained {cs : List Instr} (carried : ∀ c ∈ cs, Carried c) (frame : List Byte) {rest : List Byte}
    (more : rest ≠ []) (fuel place : Nat) (early : place + cs.length ≤ 3)
    (small : (cs.flatMap chainedBytes ++ rest).length ≤ 510) :
    splitRequests frame (cs.length + fuel) place (cs.flatMap chainedBytes ++ rest) =
      cs.map Entry.request ++ splitRequests frame fuel (place + cs.length) rest := by
  induction cs generalizing place with
  | nil => simp
  | cons c cs ih =>
    obtain ⟨wf, request⟩ := carried c (List.mem_cons_self ..)
    obtain ⟨⟨code, tag⟩, hc⟩ := Option.ne_none_iff_exists'.mp request
    have bytes : chainedBytes c = c.bytes code tag true := by simp [chainedBytes, hc]
    simp only [List.flatMap_cons, List.append_assoc, List.length_cons, List.length_append, bytes] at small early ⊢
    have body := length_body_le c code tag true
    have nonempty : (cs.flatMap chainedBytes ++ rest).isEmpty = false := by simp [more]
    have fuelIs : cs.length + 1 + fuel = (cs.length + fuel) + 1 := by omega
    rw [fuelIs, splitRequests, readRequest_bytes hc wf (by rw [nonempty]; rfl) (by omega) frame (fun _ => by omega)]
    simp only [if_true]
    rw [ih (fun d hd => carried d (List.mem_cons_of_mem _ hd)) (place + 1) (by omega) (by simp only [List.length_append]; omega)]
    simp only [List.map_cons, List.cons_append, List.cons.injEq, true_and]
    rw [show place + 1 + cs.length = place + (cs.length + 1) by omega]

/-- The requests of a frame but its last are chained. -/
theorem writeRequests_concat (cs : List Instr) {c : Instr} {code : Nat} {tag : Tag} (hc : c.request? = some (code, tag)) :
    writeRequests (cs ++ [c]) = cs.flatMap chainedBytes ++ c.bytes code tag false := by
  induction cs with
  | nil => simp [writeRequests, hc]
  | cons d cs ih =>
    simp only [List.cons_append, writeRequests, ih, List.flatMap_cons, List.append_assoc, chainedBytes]
    cases d.request? <;> cases cs <;> rfl

/-- A sound frame and whatever is clocked behind it is split into its requests (R177). -/
theorem frameEntries_sound {frame : List Byte} (extra : List Byte) (some_ : frame ≠ []) (small : frame.length ≤ 510) :
    frameEntries (beBytes 2 frame.length ++ frame ++ extra) = splitRequests (beBytes 2 frame.length ++ frame) 4 0 frame := by
  have length : beNat [BitVec.ofNat 8 (frame.length / 256), BitVec.ofNat 8 frame.length] = frame.length :=
    beNat_cons_pair (beBytes_two _).symm (by omega)
  have positive := List.length_pos_iff.mpr some_
  simp only [beBytes_two, List.cons_append, List.nil_append, frameEntries, length, Config.frameBytes]
  rw [if_neg (by simp only [List.length_append]; omega), List.take_left]
  rfl

/-- Settles O9: the last request is read by `readRequest_bytes`, those before it by `splitRequests_chained`. -/
theorem frameCarriesRequests : Obligations.FrameCarriesRequests := by
  intro cs extra nonempty short carried small
  obtain rfl | ⟨cs, c, rfl⟩ := List.eq_nil_or_concat cs
  · exact absurd rfl nonempty
  rw [List.concat_eq_append] at *
  obtain ⟨wf, request⟩ := carried c (by simp)
  obtain ⟨⟨code, tag⟩, hc⟩ := Option.ne_none_iff_exists'.mp request
  rw [writeRequests_concat cs hc] at small
  have body := length_body_le c code tag false
  have filled : c.bytes code tag false ≠ [] := by simp [Instr.bytes, beBytes_one]
  simp only [List.length_append, List.length_singleton] at short small
  rw [writeFrame, writeRequests_concat cs hc,
    frameEntries_sound extra (by simp [filled]) (by simp only [List.length_append]; omega),
    show 4 = cs.length + (4 - cs.length) by omega,
    splitRequests_chained (fun d hd => carried d (by simp [hd])) _ filled _ _ (by omega)
      (by simp only [List.length_append]; omega),
    show 4 - cs.length = (3 - cs.length) + 1 by omega, splitRequests]
  have read := fun frame offset => readRequest_bytes (chained := false) (follows := []) hc wf rfl (by omega) frame
    (place := 0 + cs.length) (fun h => by cases h) offset
  simp only [List.append_nil] at read
  rw [read]
  simp

/-! ### What a frame makes of a malformed request -/

/-- One malformed request is one marker with its code and the tag that could be read; nothing behind it is read. -/
structure MarkerOf (code : Nat) (tag : Tag) (frame : List Byte) (r : Entry × Option (List Byte)) : Prop where
  marker : ∃ offset, r.1 = .marker code tag offset (frame.length - (offset + 1))
  last : r.2 = none

theorem markerOf_markerAt (frame : List Byte) (place code : Nat) (tag : Tag) (offset : Option Nat) :
    MarkerOf code tag frame (markerAt frame place code tag offset, none) := ⟨⟨_, rfl⟩, rfl⟩

section
variable (frame : List Byte) (place offset : Nat) (header : Byte)

/-- A request whose tag cannot be read. -/
theorem readRequest_of_no_tag {behind : List Byte} (noTag : ∀ o, ∃ e, readTag o behind = .error e) :
    MarkerOf (header.toNat % 128) [] frame (readRequest frame place offset (header :: behind)) := by
  obtain ⟨e, he⟩ := noTag (offset + 1)
  simp only [readRequest, he]
  split
  · exact markerOf_markerAt ..
  · split <;> exact markerOf_markerAt ..

section
variable {tag : Tag} (short : tag.length ≤ 6) (behind : List Byte)
include short

/-- A request whose tag can be read is malformed where its code is unknown. -/
theorem readRequest_of_no_code (unknown : requestFields (header.toNat % 128) = none) :
    MarkerOf (header.toNat % 128) tag frame
      (readRequest frame place offset (header :: BitVec.ofNat 8 tag.length :: (tag ++ behind))) := by
  simp only [readRequest, readTag_append short, unknown]
  exact markerOf_markerAt ..

/-- A request with a readable tag and a body is sound only where it stands at a place that its chain flag allows, its items are
read and complete, and something follows exactly where its chain flag says so (R178). -/
theorem readRequest_malformed
    (malformed : (readBody behind = none)
      ∨ ∃ body follows, readBody behind = some (body, follows)
        ∧ ((128 ≤ header.toNat ∧ (place = 3 ∨ follows = []))
          ∨ (header.toNat < 128 ∧ follows ≠ [])
          ∨ ∃ rules, requestFields (header.toNat % 128) = some rules
              ∧ ∀ o items, readItems rules body.length o [] body = .ok items → allRequired rules items = false)) :
    MarkerOf (header.toNat % 128) tag frame
      (readRequest frame place offset (header :: BitVec.ofNat 8 tag.length :: (tag ++ behind))) := by
  simp only [readRequest, readTag_append short]
  split
  · exact markerOf_markerAt ..
  rename_i rules known
  split
  · exact markerOf_markerAt ..
  rename_i notLast
  split
  · exact markerOf_markerAt ..
  rename_i body follows hbody
  split
  · exact markerOf_markerAt ..
  rename_i items read
  split
  · exact markerOf_markerAt ..
  rename_i complete
  split
  · exact markerOf_markerAt ..
  rename_i agrees
  exfalso
  simp only [hbody, reduceCtorEq, false_or, Option.some.injEq, Prod.mk.injEq] at malformed
  obtain ⟨_, _, ⟨rfl, rfl⟩, ⟨chained, last | none_⟩ | ⟨unchained, more⟩ | ⟨_, known', incomplete⟩⟩ := malformed
  · exact notLast ⟨chained, by rw [last]; rfl⟩
  · simp [chained, none_] at agrees
  · simp [Nat.not_le.mpr unchained, more] at agrees
  · rw [known, Option.some.injEq] at known'
    subst known'
    simp [incomplete _ _ read] at complete

end

end

theorem splitRequests_of_marker {frame bytes : List Byte} {fuel place code : Nat} {tag : Tag}
    (h : MarkerOf code tag frame (readRequest frame place (frame.length - bytes.length) bytes)) :
    ∃ offset, splitRequests frame (fuel + 1) place bytes = [.marker code tag offset (frame.length - (offset + 1))] := by
  obtain ⟨⟨o, marker⟩, last⟩ := h
  refine ⟨o, ?_⟩
  rw [splitRequests]
  generalize readRequest frame place (frame.length - bytes.length) bytes = r at marker last
  obtain ⟨entry, follows⟩ := r
  cases marker
  cases last
  rfl

/-! ### WRITE_FRAME (R177, R178) -/

theorem frameEntries_nonempty (bytes : List Byte) : 1 ≤ (frameEntries bytes).length := by
  unfold frameEntries
  split
  · dsimp only
    split
    · exact Nat.le_refl _
    · rw [show Config.frameRequests = 3 + 1 from rfl, splitRequests]
      split <;> simp
  · exact Nat.le_refl _

/-- A frame whose length is 0, beyond 510 or beyond what was clocked is unsound (R177). -/
theorem frameEntries_unsound {bytes : List Byte}
    (unsound : bytes.length < 2 ∨ beNat (bytes.take 2) = 0 ∨ 510 < beNat (bytes.take 2)
      ∨ bytes.length < 2 + beNat (bytes.take 2)) :
    ∃ offset discarded, discarded = min bytes.length (2 + beNat (bytes.take 2)) - (offset + 1)
      ∧ frameEntries bytes = [.marker 0 [] offset discarded] := by
  match bytes, unsound with
  | [], _ => exact ⟨_, _, by simp, rfl⟩
  | [a], _ => exact ⟨_, _, by simp [show min 1 (2 + beNat [a]) = 1 by omega], rfl⟩
  | a :: b :: rest, unsound =>
    simp only [List.length_cons, List.take_succ_cons, List.take_zero] at unsound ⊢
    refine ⟨_, _, ?_, by rw [frameEntries, if_pos (by simp only [Config.frameBytes]; omega)]; rfl⟩
    simp only [List.length_cons, List.length_take]
    omega

/-- Bytes clocked beyond the frame length are ignored, whatever that length (R177). -/
theorem frameEntries_take (bytes : List Byte) : frameEntries (bytes.take (2 + beNat (bytes.take 2))) = frameEntries bytes := by
  match bytes with
  | [] => simp
  | [a] => rw [List.take_of_length_le (by simp; omega)]
  | a :: b :: rest =>
    simp only [List.take_succ_cons, List.take_zero]
    rw [show 2 + beNat [a, b] = beNat [a, b] + 1 + 1 by omega]
    simp only [List.take_succ_cons, frameEntries, List.take_take, Nat.min_self, List.length_take]
    have same : (min (beNat [a, b]) rest.length < beNat [a, b]) = (rest.length < beNat [a, b]) := propext (by omega)
    simp only [same]

/-- Requests before a malformed one enter as they are, and the malformed one is a marker, the last entry (R178). -/
theorem frameEntries_of_marker {cs : List Instr} (carried : ∀ c ∈ cs, Carried c) (few : cs.length ≤ 3) {bad : List Byte}
    {code : Nat} {tag : Tag} (extra : List Byte) (nonempty : bad ≠ []) (small : (cs.flatMap chainedBytes ++ bad).length ≤ 510)
    (marker : ∀ frame offset, MarkerOf code tag frame (readRequest frame cs.length offset bad)) :
    let frame := cs.flatMap chainedBytes ++ bad
    ∃ offset discarded, discarded = 2 + frame.length - (offset + 1)
      ∧ frameEntries (beBytes 2 frame.length ++ frame ++ extra) = cs.map Entry.request ++ [.marker code tag offset discarded] := by
  intro frame
  obtain ⟨o, ho⟩ := splitRequests_of_marker (frame := beBytes 2 frame.length ++ frame) (bytes := bad) (fuel := 3 - cs.length)
    (place := 0 + cs.length) (by rw [Nat.zero_add]; exact marker _ _)
  refine ⟨o, _, rfl, ?_⟩
  rw [frameEntries_sound extra (by simp [nonempty]) small, show 4 = cs.length + (3 - cs.length + 1) by omega,
    splitRequests_chained carried _ nonempty _ _ (by omega) small, ho]
  simp

theorem readTag_error {behind : List Byte}
    (h : behind = [] ∨ ∃ l bytes, behind = l :: bytes ∧ (6 < l.toNat ∨ bytes.length < l.toNat)) (o : Nat) :
    ∃ e, readTag o behind = .error e := by
  obtain rfl | ⟨l, bytes, rfl, h⟩ := h
  · exact ⟨_, rfl⟩
  · rw [readTag]
    split
    · exact ⟨_, rfl⟩
    · exact ⟨none, if_pos (h.resolve_left ‹_›)⟩

theorem readBody_none {bytes : List Byte} (h : bytes.length < 2 ∨ bytes.length < 2 + beNat (bytes.take 2)) :
    readBody bytes = none := by
  match bytes, h with
  | [], _ => rfl
  | [_], _ => rfl
  | a :: b :: rest, h =>
    simp only [List.length_cons, List.take_succ_cons, List.take_zero] at h
    rw [readBody]
    exact if_pos (by omega)

/-- READY with main power on and no reset in progress (R177). -/
theorem readyLine_iff {l : Lnk} (power : l.mainPower = true) (free : l.linkResetHeld = false) :
    readyLine l = true ↔ l.requests.length ≤ 12 := by
  rw [readyLine, power, free]
  simp [Config.readyRoom, Config.requestQueue]

/-- Settles O14: the frame's place in the queue by READY; its entries by the lemmas on frames. -/
theorem writeFrame : Obligations.WriteFrame := by
  intro s bytes power free
  refine ⟨fun room => ?_, fun noRoom => ?_, frameEntries_nonempty bytes, frameEntries_length bytes, frameEntries_unsound,
    frameEntries_take bytes, ?_⟩
  · refine congrArg Host.Outcome.next ((Link.transact_of_taken _ _ _ power free).trans ?_)
    exact congrArg (settled s) (if_pos ((readyLine_iff power free).mpr room))
  · refine congrArg Host.Outcome.next ((Link.transact_of_taken _ _ _ power free).trans ?_)
    exact congrArg (settled s) (if_neg (mt (readyLine_iff power free).mp (Nat.not_le.mpr noRoom)))
  · intro cs header behind extra few carried before frame code marked small
    have marks {tag : Tag} := frameEntries_of_marker (code := code) (tag := tag) carried few extra
      (List.cons_ne_nil header behind) small
    refine ⟨fun noTag => marks fun f o => readRequest_of_no_tag f _ o header (readTag_error noTag),
      fun tag bytes short hbehind => ⟨fun unknown => ?_, fun noBody => ?_, fun body follows hbytes =>
        ⟨fun chained last => ?_, fun unchained more => ?_, fun rules known incomplete => ?_⟩⟩⟩
    all_goals subst hbehind
    · exact marks fun f o => readRequest_of_no_code f _ o header short bytes unknown
    · exact marks fun f o => readRequest_malformed f _ o header short bytes (.inl (readBody_none noBody))
    all_goals
      have read : readBody bytes = some (body, follows) := by
        rw [hbytes]
        refine readBody_append ?_
        simp only [hbytes, frame, List.length_append, List.length_cons] at small
        omega
    · exact marks fun f o => readRequest_malformed f _ o header short bytes (.inr ⟨_, _, read, .inl ⟨chained, last⟩⟩)
    · exact marks fun f o => readRequest_malformed f _ o header short bytes (.inr ⟨_, _, read, .inr (.inl ⟨unchained, more⟩)⟩)
    · exact marks fun f o => readRequest_malformed f _ o header short bytes
        (.inr ⟨_, _, read, .inr (.inr ⟨rules, known, incomplete⟩)⟩)

end Sys2Proof.Frames
end

section
/-! PROOF. Accounts, badges and pools (R3 to R16), credits and the peak (R29, R30, R32), a settlement's division (R24), a
reservation (R21), and the settings of every block. -/

namespace Sys2Proof.Laws

open Sys2Proof.Machine Sys2Proof.Safety

/-- A taken request by the records its handling leaves and the notices it raises. -/
theorem exec_answered {c : Instr} {code : Nat} {tag : Tag} {s : State} {w : Work} {o : ReplyOutcome} {body : List Field}
    {r : Records} {raised : List Raised} (taken : Taken s c) (hc : c.request? = some (code, tag))
    (hw : requestWork c s.work = (w, ⟨o, body⟩)) (hr : w.toRecords = r) (hn : w.raised = raised) :
    exec c s = .next (answered s code tag r raised o body) := by
  subst hr hn
  exact exec_worked taken hc hw

theorem yesNo?_of_le {v : Nat} (h : v ≤ 1) : yesNo? v = some (v == 1) := by
  obtain rfl | rfl := Nat.le_one_iff_eq_zero_or_eq_one.mp h <;> rfl

theorem yesNo?_of_lt {v : Nat} (h : 1 < v) : yesNo? v = none := by
  match v, h with
  | 0, h => exact absurd h (by decide)
  | 1, h => exact absurd h (by decide)
  | _ + 2, _ => rfl

theorem yesNos_iff (l : List Nat) : yesNos l = true ↔ ∀ v ∈ l, v ≤ 1 := by
  simp only [yesNos, List.all_eq_true]
  refine forall₂_congr fun v _ => ⟨fun h => ?_, fun h => by rw [yesNo?_of_le h]; rfl⟩
  by_contra large
  rw [yesNo?_of_lt (Nat.not_le.mp large)] at h
  cases h

theorem selectedYes_eq (stored : Bool) (o : Option Nat) : selectedYes stored o = (o.map (· == 1)).getD stored := by
  cases o <;> rfl

/-! ### What a record does to a table (the pool an account names) -/

theorem updatePool_of_lookup {w : Work} {p : Nat} {q : Pool} (h : w.adir.pools.lookup p = some q) (f : Pool → Pool) :
    w.updatePool p f = w.setPool p (f q) := by
  simp only [Work.updatePool, h]

theorem updateAccount_of_lookup {w : Work} {i : Nat} {a : Account} (h : w.adir.accounts.lookup i = some a)
    (f : Account → Account) : w.updateAccount i f = w.setAccount i (f a) := by
  simp only [Work.updateAccount, h]

theorem changeReserved_of_pool {w : Work} {i p : Nat} {a : Account} {q : Pool} (ha : w.adir.accounts.lookup i = some a)
    (hp : a.pool = some p) (hq : w.adir.pools.lookup p = some q) (x y : Nat) (f : Nat → Nat → Nat) :
    changeReserved i x y f w =
      (w.setAccount i { a with reserved := f a.reserved x }).setPool p { q with reserved := f q.reserved y } := by
  simp only [changeReserved, ha]
  split
  · rename_i noPool; rw [hp] at noPool; cases noPool
  · rename_i p' hp'
    obtain rfl : p = p' := Option.some.inj (hp.symm.trans hp')
    exact updatePool_of_lookup (by exact hq) _

theorem changeReserved_of_no_pool {w : Work} {i : Nat} {a : Account} (ha : w.adir.accounts.lookup i = some a)
    (hp : a.pool = none) (x y : Nat) (f : Nat → Nat → Nat) :
    changeReserved i x y f w = w.setAccount i { a with reserved := f a.reserved x } := by
  simp only [changeReserved, ha]
  split
  · rfl
  · rename_i p' hp'; rw [hp] at hp'; cases hp'

end Sys2Proof.Laws

namespace Sys2Proof.People

open Sys2Proof.Machine Sys2Proof.Safety Sys2Proof.Laws

theorem inAccounts {i : Nat} (h : i < 4096) : ¬ Config.accounts ≤ i := Nat.not_le.mpr h

theorem inPools {p : Nat} (h : p < 64) : ¬ Config.pools ≤ p := Nat.not_le.mpr h

/-! ### ACCOUNT_OPEN (R3, R4) -/

section
variable {f : AccountOpen} {w : Work}

theorem handleAccountOpen_of_out_of_range (h : 4096 ≤ f.account ∨ 1 < f.colour) : handleAccountOpen f w = w.refuse .range := by
  obtain h | h := h
  · rw [handleAccountOpen, if_pos (show Config.accounts ≤ f.account from h), ite_self]
  · rw [handleAccountOpen, if_pos (by rw [yesNo?_of_lt h]; rfl)]

section
variable (hi : f.account < 4096) (hc : f.colour ≤ 1)
include hi hc

theorem handleAccountOpen_of_taken {a : Account} (ha : w.adir.accounts.lookup f.account = some a) :
    handleAccountOpen f w = w.refuse (match a.state with
      | .retiring _ => .retiring
      | _ => .duplicate) := by
  simp only [handleAccountOpen, yesNo?_of_le hc, Option.isNone_some, Bool.false_eq_true, if_false, if_neg (inAccounts hi), ha] <;> cases a.state <;> rfl

theorem handleAccountOpen_of_pool {o : ReplyOutcome} (ha : w.adir.accounts.lookup f.account = none)
    (hp : poolRefusal? w.toRecords f.pool = some o) : handleAccountOpen f w = w.refuse o := by
  simp only [handleAccountOpen, yesNo?_of_le hc, Option.isNone_some, Bool.false_eq_true, if_false, if_neg (inAccounts hi), ha, hp]

theorem handleAccountOpen_of_free (ha : w.adir.accounts.lookup f.account = none) (hp : poolRefusal? w.toRecords f.pool = none) :
    handleAccountOpen f w =
      (evaluateWarning f.account (changeMembers (· + 1) f.pool (w.setAccount f.account (openedAccount f)))).ok
        (accountSettings (openedAccount f) ++ [s32 (openedAccount f).balance, flag (warnStateAfter (openedAccount f))]) := by
  simp only [handleAccountOpen, yesNo?_of_le hc, Option.isNone_some, Bool.false_eq_true, if_false, if_neg (inAccounts hi), ha, hp]

end

end

theorem poolRefusal?_of_range {r : Records} {p : Nat} (h : 64 ≤ p) : poolRefusal? r (some p) = some .range :=
  if_pos h

theorem poolRefusal?_of_free {r : Records} {p : Nat} (hp : p < 64) (h : r.adir.pools.lookup p = none) :
    poolRefusal? r (some p) = some .noRecord := by
  simp only [poolRefusal?, if_neg (inPools hp), h]

theorem poolRefusal?_of_lookup {r : Records} {p : Nat} {q : Pool} (hp : p < 64) (h : r.adir.pools.lookup p = some q) :
    poolRefusal? r (some p) = if q.state = .retiring then some .retiring else none := by
  simp only [poolRefusal?, if_neg (inPools hp), h]

/-- A pool that is joined by one account is written with its member count raised, and nothing else. -/
theorem changeMembers_join {w : Work} {pool : Option Nat} {pools : Table Pool}
    (joins : (pool = none ∧ pools = w.adir.pools)
      ∨ ∃ p q, pool = some p ∧ p < 64 ∧ w.adir.pools.lookup p = some q ∧ q.state = .active
          ∧ pools = w.adir.pools.put p { q with members := q.members + 1 }) :
    changeMembers (· + 1) pool w = { w with adir := { w.adir with pools } } ∧ poolRefusal? w.toRecords pool = none := by
  obtain ⟨rfl, rfl⟩ | ⟨p, q, rfl, hp, hq, active, rfl⟩ := joins
  · exact ⟨rfl, rfl⟩
  · exact ⟨updatePool_of_lookup hq _, by rw [poolRefusal?_of_lookup hp hq, active]; rfl⟩

theorem openedAccount_eq (f : AccountOpen) :
    openedAccount f =
      { state := .active, pool := f.pool, colour := f.colour == 1, allotment := min f.allotment 1000000
        overdraft := min f.overdraft 65535, warnLow := min f.warnLow 2000000
        warnHigh := max (min f.warnHigh 2000000) (min f.warnLow 2000000), badgeCount := 0
        balance := (min f.allotment 1000000 : Nat), reserved := 0, warned := false, usedPeriod := 0, today := 0, peak := 0
        liveJobs := 0, openVisit := none, inFlight := 0 } := by
  simp only [openedAccount, warnHighStored, clamp_zero, Config.maxAllotment, Config.maxOverdraft, Config.maxWarn, yes]

/-- Settles O20: the account is CLEAR as it is written, so the evaluation of the warning is that of a CLEAR account. -/
theorem accountOpened : Obligations.AccountOpened := by
  intro s tag f taken refused
  refine ⟨fun h => exec_refused taken rfl (handleAccountOpen_of_out_of_range h), fun hi hc =>
    ⟨fun a ha => ⟨fun standing => ?_, fun accepted retiring => ?_⟩, fun p free hp => ⟨fun beyond => ?_, fun inside none => ?_,
      fun q inside hq retiring => ?_⟩⟩, fun pools hi hc free joins => ?accepted⟩
  · refine exec_refused taken rfl ((handleAccountOpen_of_taken hi hc ha).trans ?_)
    obtain h | h := standing <;> rw [h]
  · refine exec_refused taken rfl ((handleAccountOpen_of_taken hi hc ha).trans ?_)
    rw [retiring]
  · exact exec_refused taken rfl (handleAccountOpen_of_pool hi hc free (by rw [hp]; exact poolRefusal?_of_range beyond))
  · exact exec_refused taken rfl (handleAccountOpen_of_pool hi hc free (by rw [hp]; exact poolRefusal?_of_free inside none))
  · exact exec_refused taken rfl (handleAccountOpen_of_pool hi hc free (by
      rw [hp]; exact (poolRefusal?_of_lookup inside hq).trans (if_pos retiring)))
  case accepted =>
    intro allotment overdraft low high warned opened
    have member := (changeMembers_join (w := s.work.setAccount f.account (openedAccount f)) joins).1
    have work := handleAccountOpen_of_free hi hc free (w := s.work) (changeMembers_join (w := s.work) joins).2
    have after : warnStateAfter (openedAccount f) = warned := by
      rw [openedAccount_eq]
      exact decide_eq_decide.mpr (by simp only [Account.available]; omega)
    have body : accountSettings (openedAccount f) ++ [s32 (openedAccount f).balance, flag (warnStateAfter (openedAccount f))] =
        [opt u8 f.pool, flag (f.colour == 1), u32 allotment, u16 overdraft, u32 low, u32 high, s32 allotment, flag warned] := by
      rw [after, openedAccount_eq]; rfl
    rw [member, body] at work
    have found : ({ s.work.setAccount f.account (openedAccount f) with
        adir := { (s.work.setAccount f.account (openedAccount f)).adir with pools } } : Work).adir.accounts.lookup f.account =
          some (openedAccount f) := Table.lookup_put_self ..
    have is : { openedAccount f with warned } = opened := by rw [openedAccount_eq]
    cases turned : warned
    · rw [evaluateWarning_of_unchanged found (by rw [after, turned]; rfl), turned] at work
      refine exec_answered taken rfl work ?_ rfl
      rw [← is, turned]
      rfl
    · rw [evaluateWarning_of_changed found (by rw [after, turned, openedAccount_eq]; exact Bool.true_eq_false_eq_False), after, is, turned] at work
      refine exec_answered taken rfl work ?_ ?_
      · simp [Work.setAccount]
      · rw [openedAccount_eq]
        simp [Account.available, allotment, overdraft, flag, u8]

/-! ### ACCOUNT_SET (R5, R6) -/

theorem lookup_updatePool (w : Work) (p k : Nat) (f : Pool → Pool) :
    (w.updatePool p f).adir.pools.lookup k = (w.adir.pools.lookup k).map (fun q => if k = p then f q else q) := by
  cases hq : w.adir.pools.lookup p with
  | none =>
    simp only [Work.updatePool, hq]
    by_cases hk : k = p
    · rw [hk, hq]; rfl
    · simp [hk]
  | some q =>
    rw [updatePool_of_lookup hq, Work.setPool_pools, Table.lookup_put]
    by_cases hk : p = k
    · simp [← hk, hq]
    · simp [Ne.symm hk]

/-- A change of pools writes pools alone. -/
theorem changeMembers_frame (f : Nat → Nat) (pool : Option Nat) (w : Work) :
    ∃ pools, changeMembers f pool w = { w with adir := { w.adir with pools } }
      ∧ ∀ k, pools.lookup k =
          (w.adir.pools.lookup k).map (fun q => if pool = some k then { q with members := f q.members } else q) := by
  cases pool with
  | none => exact ⟨_, rfl, fun k => by simp⟩
  | some p =>
    refine ⟨(changeMembers f (some p) w).adir.pools, ?_, fun k => ?_⟩
    · simp only [changeMembers, Work.updatePool]
      split <;> rfl
    · rw [changeMembers, lookup_updatePool]
      simp [eq_comm]

theorem changePool_frame {old new : Option Nat} (w : Work) :
    ∃ pools, changePool old new w = { w with adir := { w.adir with pools } }
      ∧ (new = old → pools = w.adir.pools)
      ∧ (new ≠ old → ∀ k, pools.lookup k = (w.adir.pools.lookup k).map (fun q =>
          { q with members := if old = some k then q.members - 1 else if new = some k then q.members + 1 else q.members })) := by
  by_cases same : old = new
  · exact ⟨w.adir.pools, by rw [changePool, if_pos same], fun _ => rfl, fun differ => absurd same.symm differ⟩
  · obtain ⟨left, hleft, leftAt⟩ := changeMembers_frame (· - 1) old w
    obtain ⟨joined, hjoined, joinedAt⟩ := changeMembers_frame (· + 1) new (changeMembers (· - 1) old w)
    refine ⟨joined, by rw [changePool, if_neg same, hjoined, hleft], fun h => absurd h.symm same, fun _ k => ?_⟩
    rw [joinedAt, hleft]
    simp only [leftAt, Option.map_map]
    congr 1
    funext q
    by_cases ho : old = some k
    · have hn : new ≠ some k := fun hn => same (ho.trans hn.symm)
      simp [ho, hn]
    · by_cases hn : new = some k <;> simp [ho, hn]

section
variable {f : AccountSet} {w : Work} {a : Account} (hi : f.account < 4096) (hc : ∀ v, f.colour = some v → v ≤ 1)
  (ha : w.adir.accounts.lookup f.account = some a)
include hi hc ha

theorem handleAccountSet_of_retiring {accepted : Nat} (retiring : a.state = .retiring accepted) :
    handleAccountSet f w = w.refuse .retiring := by
  have colours : yesNos f.colour.toList = true := (yesNos_iff _).mpr fun v hv => hc v (by simpa using hv)
  simp only [handleAccountSet, colours, Bool.not_true, Bool.false_eq_true, if_false, if_neg (inAccounts hi), ha, retiring]

/-- An account that is not RETIRING has its change of pool checked. -/
theorem handleAccountSet_of_pool {o : ReplyOutcome} (standing : a.state = .active ∨ a.state = .suspended)
    (refusal : poolChangeRefusal? w.toRecords a (f.pool.getD a.pool) = some o) : handleAccountSet f w = w.refuse o := by
  have colours : yesNos f.colour.toList = true := (yesNos_iff _).mpr fun v hv => hc v (by simpa using hv)
  simp only [handleAccountSet, colours, Bool.not_true, Bool.false_eq_true, if_false, if_neg (inAccounts hi), ha]
  obtain h | h := standing <;> simp only [h, refusal]

/-- Its settings are stored where the change of pool is allowed. -/
theorem handleAccountSet_of_allowed (standing : a.state = .active ∨ a.state = .suspended)
    (allowed : poolChangeRefusal? w.toRecords a (f.pool.getD a.pool) = none) :
    handleAccountSet f w =
      (if f.overdraft.isSome ∨ f.warnLow.isSome ∨ f.warnHigh.isSome then
        evaluateWarning f.account
          (changePool a.pool (setAccountFields f a).pool (w.setAccount f.account (setAccountFields f a)))
      else changePool a.pool (setAccountFields f a).pool (w.setAccount f.account (setAccountFields f a))).ok
        (accountSettings (setAccountFields f a)) := by
  have colours : yesNos f.colour.toList = true := (yesNos_iff _).mpr fun v hv => hc v (by simpa using hv)
  simp only [handleAccountSet, colours, Bool.not_true, Bool.false_eq_true, if_false, if_neg (inAccounts hi), ha, Bool.or_eq_true,
    or_assoc]
  obtain h | h := standing <;> simp only [h, allowed]

end

/-- Settles O21: the change of pool is `changePool_frame`, and everything else is in the account's record. -/
theorem accountSettingsChanged : Obligations.AccountSettingsChanged := by
  intro s tag f a taken ha hi hc refused
  refine ⟨fun accepted retiring => exec_refused taken rfl (handleAccountSet_of_retiring hi hc ha retiring),
    fun p standing hp moved => ?_, fun standing leaves moved busy => ?_, fun standing allowed => ?_⟩
  · have refuses {o : ReplyOutcome} (h : poolChangeRefusal? s.toRecords a (some p) = some o) : refused o :=
      exec_refused taken rfl (handleAccountSet_of_pool hi hc ha standing (by rw [hp]; exact h))
    have joins : poolChangeRefusal? s.toRecords a (some p) = match poolRefusal? s.toRecords (some p) with
        | some o => some o
        | none => if 0 < a.inFlight then some .busy else none := if_neg (Ne.symm moved)
    refine ⟨fun beyond => refuses ?_, fun inside none => refuses ?_, fun q inside hq =>
      ⟨fun retiring => refuses ?_, fun active busy => refuses ?_⟩⟩
    · rw [joins, poolRefusal?_of_range beyond]
    · rw [joins, poolRefusal?_of_free inside none]
    · rw [joins, poolRefusal?_of_lookup inside hq, if_pos retiring]
    · rw [joins, poolRefusal?_of_lookup inside hq, active]
      exact if_pos busy
  · refine exec_refused taken rfl (handleAccountSet_of_pool hi hc ha standing ?_)
    rw [leaves, Option.getD_some, poolChangeRefusal?, if_neg (Ne.symm moved)]
    exact if_pos busy
  intro low high a'
  · have settings : setAccountFields f a = a' := by
      simp only [setAccountFields, selectedYes_eq, Config.maxAllotment, Config.maxOverdraft, Config.maxWarn, a', low, high]
    have noRefusal : poolChangeRefusal? s.toRecords a (f.pool.getD a.pool) = none := by
      obtain same | ⟨idle, none | ⟨p, q, hp, inside, hq, active⟩⟩ := allowed
      · exact if_pos same
      · rw [poolChangeRefusal?, none]
        split
        · rfl
        · exact if_neg (by omega)
      · rw [poolChangeRefusal?, hp, poolRefusal?_of_lookup inside hq, active]
        split
        · rfl
        · exact if_neg (by omega)
    obtain ⟨pools, frame, same, differ⟩ := changePool_frame (old := a.pool) (new := a'.pool) (s.work.setAccount f.account a')
    refine ⟨pools, same, differ, ?_⟩
    intro moved
    have work := handleAccountSet_of_allowed (w := s.work) hi hc ha standing noRefusal
    rw [settings, frame] at work
    exact exec_ok taken rfl work

/-! ### ACCOUNT_SUSPEND and ACCOUNT_RESUME (R8, R9) -/

section
variable {i : Nat} {w : Work} {a : Account} (hi : i < 4096) (ha : w.adir.accounts.lookup i = some a)
include hi ha

theorem handleAccountSuspend_of_lookup :
    handleAccountSuspend i w = match a.state with
      | .suspended => w.refuse .state
      | .retiring _ => w.refuse .retiring
      | .active => (closeAccountVisit i .account (w.setAccount i { a with state := .suspended })).ok
          [u8 a.liveJobs, u8 a.inFlight, opt u8 a.openVisit] := by
  simp only [handleAccountSuspend, if_neg (inAccounts hi), ha] <;> cases a.state <;> rfl

theorem handleAccountResume_of_lookup :
    handleAccountResume i w = match a.state with
      | .active => w.refuse .state
      | .retiring _ => w.refuse .retiring
      | .suspended => (w.setAccount i { a with state := .active }).ok [u8 a.liveJobs] := by
  simp only [handleAccountResume, if_neg (inAccounts hi), ha] <;> cases a.state <;> rfl

end

theorem closeVisit_of_lookup {p : Nat} {reason : CloseReason} {w : Work} {v : Visit} {a : Account}
    (hv : w.rlu.visits.lookup p = some v) (ha : w.adir.accounts.lookup v.account = some a) :
    closeVisit p reason w =
      ((w.setAccount v.account { a with openVisit := none }).dropVisit p).raise .visitClosed p
        ([u8 p, u16 v.account, u8 reason.code] ++ v.drainCounts) := by
  simp only [closeVisit, hv]
  rw [updateAccount_of_lookup (by exact ha)]
  rfl

/-- Settles O23. -/
theorem accountSuspendedAndResumed : Obligations.AccountSuspendedAndResumed := by
  intro s tag i a ha hi
  have suspend := handleAccountSuspend_of_lookup (w := s.work) hi ha
  have resume := handleAccountResume_of_lookup (w := s.work) hi ha
  refine ⟨fun taken => ⟨fun suspended => ?_, fun accepted retiring => ?_⟩, fun taken => ⟨fun active => ?_, fun accepted retiring =>
    ?_⟩, fun taken active => ⟨fun noVisit => ?_, fun p v visit hv mine => ?_⟩, fun taken suspended => ?_⟩
  · rw [suspended] at suspend
    exact exec_refused taken rfl suspend
  · rw [retiring] at suspend
    exact exec_refused taken rfl suspend
  · rw [active] at resume
    exact exec_refused taken rfl resume
  · rw [retiring] at resume
    exact exec_refused taken rfl resume
  · rw [active] at suspend
    have closed : closeAccountVisit i .account (s.work.setAccount i { a with state := .suspended }) =
        s.work.setAccount i { a with state := .suspended } := by
      simp [closeAccountVisit, openVisit?, noVisit]
    rw [closed, show opt u8 a.openVisit = .absent by rw [noVisit]; rfl] at suspend
    exact exec_ok taken rfl suspend
  · rw [active] at suspend
    have closed : closeAccountVisit i .account (s.work.setAccount i { a with state := .suspended }) =
        ((s.work.setAccount i { a with state := .suspended, openVisit := none }).dropVisit p).raise .visitClosed p
          ([u8 p, u16 i, u8 5] ++ v.drainCounts) := by
      simp only [closeAccountVisit, openVisit?, Work.setAccount_accounts, Table.lookup_put_self, visit]
      rw [closeVisit_of_lookup (v := v) (a := { a with state := .suspended, openVisit := some p }) (by exact hv)
        (by rw [mine]; simp)]
      simp [mine, Work.setAccount, CloseReason.code]
    rw [closed, visit] at suspend
    exact exec_ok taken rfl suspend
  · rw [suspended] at resume
    exact exec_ok taken rfl resume

/-! ### Badges (R11 to R13) -/

section
variable {code i : Nat} {w : Work}

theorem boundTo?_isSome_iff (r : Records) (code : Nat) : (boundTo? r code).isSome = true ↔ ∃ b ∈ r.adir.badges, b.code = code := by
  simp [boundTo?]

theorem boundTo?_eq_none {r : Records} (h : ∀ b ∈ r.adir.badges, b.code ≠ code) : boundTo? r code = none := by
  simpa [boundTo?] using h

section
variable {a : Account} (hi : i < 4096) (hc : code ≠ 0) (ha : w.adir.accounts.lookup i = some a)
include hi hc ha

theorem handleBadgeBind_of_retiring {accepted : Nat} (retiring : a.state = .retiring accepted) :
    handleBadgeBind code i w = w.refuse .retiring := by
  rw [handleBadgeBind, if_neg (not_or.mpr ⟨hc, inAccounts hi⟩)]
  simp only [ha, retiring]

variable (standing : a.state = .active ∨ a.state = .suspended)
include standing

theorem handleBadgeBind_of_standing :
    handleBadgeBind code i w =
      if (boundTo? w.toRecords code).isSome then w.refuse .duplicate
      else if 2 ≤ a.badgeCount then w.refuse .full
      else if 6144 ≤ w.adir.badges.length then w.refuse .full
      else
        ((w.setBadges (w.adir.badges ++ [{ code, account := i }])).setAccount i { a with badgeCount := a.badgeCount + 1 }).ok
          [u8 (a.badgeCount + 1), u16 (w.adir.badges.length + 1)] := by
  rw [handleBadgeBind, if_neg (not_or.mpr ⟨hc, inAccounts hi⟩)]
  obtain h | h := standing <;> simp only [ha, h] <;> rfl

end

theorem handleBadgeUnbind_of_bound {holder : Nat} (hi : i < 4096) (hc : code ≠ 0) (bound : boundTo? w.toRecords code = some holder) :
    handleBadgeUnbind code i w =
      if holder ≠ i then (w, answer .mismatch [u16 holder])
      else
        let w1 := (w.setBadges (w.adir.badges.filter (fun b => b.code != code))).updateAccount i
          (fun a => { a with badgeCount := a.badgeCount - 1 })
        w1.ok [u8 (badgeCountOf w1.toRecords i)] := by
  rw [handleBadgeUnbind, if_neg (not_or.mpr ⟨hc, inAccounts hi⟩)]
  simp only [bound]

end

/-- Settles O24. -/
theorem badgesBoundAndUnbound : Obligations.BadgesBoundAndUnbound := by
  intro s tag code i
  refine ⟨fun taken => exec_refused taken rfl (show handleBadgeBind 0 i s.work = _ from if_pos (.inl rfl)),
    fun taken => exec_refused taken rfl (show handleBadgeUnbind 0 i s.work = _ from if_pos (.inl rfl)),
    fun a ha hi hc => ⟨fun taken => ⟨fun accepted retiring => ?_, fun standing => ⟨fun bound => ?_, fun unbound full => ?_⟩⟩,
      fun taken standing unbound few room => ?_, fun taken bound => ?_, fun taken holder bound other => ?_⟩⟩
  · exact exec_refused taken rfl (handleBadgeBind_of_retiring hi hc ha retiring)
  · refine exec_refused taken rfl ((handleBadgeBind_of_standing hi hc ha standing).trans ?_)
    exact if_pos ((boundTo?_isSome_iff _ _).mpr bound)
  · refine exec_refused taken rfl ((handleBadgeBind_of_standing hi hc ha standing).trans ?_)
    rw [State.work_toRecords, boundTo?_eq_none unbound, if_neg (by simp)]
    split
    · rfl
    · exact if_pos (full.resolve_left ‹_›)
  · refine exec_ok taken rfl ((handleBadgeBind_of_standing hi hc ha standing).trans ?_)
    rw [State.work_toRecords, boundTo?_eq_none unbound, if_neg (by simp), if_neg (Nat.not_le.mpr few)]
    exact if_neg (Nat.not_le.mpr room)
  · refine exec_ok taken rfl ((handleBadgeUnbind_of_bound hi hc bound).trans ?_)
    rw [if_neg (not_not.mpr rfl), updateAccount_of_lookup (a := a) (by exact ha)]
    simp [badgeCountOf]
  · exact exec_replied taken rfl ((handleBadgeUnbind_of_bound hi hc bound).trans (if_pos other))

/-! ### Reads (R7, R13, R16) -/

/-- A request that reads answers from the records. -/
theorem exec_reads {c : Instr} {code : Nat} {tag : Tag} {s : State} {f : Records → Answer} {o : ReplyOutcome} {body : List Field}
    (taken : Taken s c) (hc : c.request? = some (code, tag)) (hw : requestWork c = reads f) (hf : f s.toRecords = ⟨o, body⟩) :
    exec c s = .next (replied s code tag o body) :=
  exec_replied taken hc (by rw [hw, reads, State.work_toRecords, hf])

/-- Settles O25. -/
theorem peopleRead : Obligations.PeopleRead := by
  intro s tag i
  refine ⟨fun a taken hi ha => ?_, fun taken => ⟨fun zero => ?_, fun hc unbound => ?_, fun holder a hc bound ha => ?_⟩,
    fun p taken hi hp => ?_⟩
  · refine exec_reads taken rfl rfl ?_
    rw [answerAccountRead, if_neg (inAccounts hi)]
    simp only [ha, answer, Account.available, listField, badgeCodes, List.flatMap_cons, List.flatMap_nil, List.append_nil, u32,
      Field.encode]
  · exact exec_reads taken rfl rfl (if_pos zero)
  · refine exec_reads taken rfl rfl ?_
    rw [answerBadgeFind, if_neg hc, boundTo?_eq_none unbound]
    rfl
  · refine exec_reads taken rfl rfl ?_
    rw [answerBadgeFind, if_neg hc, bound]
    simp only [ha]
    rfl
  · refine exec_reads taken rfl rfl ?_
    rw [answerPoolRead, if_neg (inPools hi)]
    simp only [hp]
    rfl

/-! ### Credits and the peak (R29, R30, R32) -/

/-- Settles O28. -/
theorem creditsAndPeak : Obligations.CreditsAndPeak := by
  refine ⟨fun s tag i amount taken => ⟨fun beyond => ?_, fun hi free => ?_, fun a hi ha => ?_⟩, fun s tag i amount =>
    ⟨fun taken => ⟨fun beyond => ?_, fun hi free => ?_, fun p hi hp => ?_⟩, fun taken =>
      ⟨fun beyond => ?_, fun hi free => ?_, fun a hi ha => ?_⟩⟩⟩
  · exact exec_refused taken rfl (show handleAccountCredit i amount s.work = _ from if_pos beyond)
  · refine exec_refused taken rfl ((show handleAccountCredit i amount s.work = _ from if_neg (inAccounts hi)).trans ?_)
    simp only [State.work_toRecords, free]
  · refine exec_ok taken rfl ((show handleAccountCredit i amount s.work = _ from if_neg (inAccounts hi)).trans ?_)
    simp only [State.work_toRecords, ha]
    rfl
  · exact exec_refused taken rfl (show handlePoolCredit i amount s.work = _ from if_pos beyond)
  · refine exec_refused taken rfl ((show handlePoolCredit i amount s.work = _ from if_neg (inPools hi)).trans ?_)
    simp only [State.work_toRecords, free]
  · refine exec_ok taken rfl ((show handlePoolCredit i amount s.work = _ from if_neg (inPools hi)).trans ?_)
    simp only [State.work_toRecords, hp]
    rfl
  · exact exec_refused taken rfl (show handlePeakClear i s.work = _ from if_pos beyond)
  · refine exec_refused taken rfl ((show handlePeakClear i s.work = _ from if_neg (inAccounts hi)).trans ?_)
    simp only [State.work_toRecords, free]
  · refine exec_ok taken rfl ((show handlePeakClear i s.work = _ from if_neg (inAccounts hi)).trans ?_)
    simp only [State.work_toRecords, ha]

/-! ### Settlement and reservation (R21, R24) -/

/-- Settles O29. -/
theorem settlementDivided : Obligations.SettlementDivided := by
  intro g a r
  refine ⟨fun le => ?_, fun lt => ?_, settledParts_sum g a, settledParts_pool_le g a, fun eq => ?_⟩
  · rw [settledParts, if_pos le]
    exact ⟨rfl, by dsimp only; omega⟩
  · rw [settledParts, if_neg (Nat.not_le.mpr lt)]
    exact ⟨rfl, rfl⟩
  · rw [settledParts, if_pos (Nat.le_of_eq eq), Prod.mk.injEq]
    omega

/-- Settles O30. -/
theorem reservationAsked : Obligations.ReservationAsked := by
  intro w j a ha c available part raised quarters
  have parts : accountPart a c = part := by simp only [accountPart, part, Account.available, available]; omega
  have le : part ≤ c := by simp only [part]; omega
  refine ⟨?_, fun whole => ?_, fun short noPool => ?_, fun p q short hp hq => ?_, fun p q poolPart hp hq => ?_, fun noPool => ?_⟩
  · simp only [c, charge, quarters]
    omega
  · simp only [askReservation, ha, show charge w.qtu j.mono j.colour j.size = c from rfl, parts]
    rw [if_pos (by simp [poolCovers, whole]), whole, Nat.sub_self]
  · have notCovered : poolCovers w.toRecords a (c - part) = false := by
      simp only [poolCovers, poolAvailable, noPool, Bool.or_false, beq_eq_false_iff_ne]
      omega
    simp only [askReservation, ha, show charge w.qtu j.mono j.colour j.size = c from rfl, parts]
    rw [notCovered, if_neg (by simp)]
    simp only [shortfall, poolAvailable, noPool]
  · have found : poolAvailable w.toRecords a = some (q.balance - q.reserved) := by
      simp only [poolAvailable, hp, hq, Option.map_some, Pool.available]
    have covers : poolCovers w.toRecords a (c - part) = decide (((c - part : Nat) : Int) ≤ q.balance - q.reserved) := by
      have positive : ((c - part : Nat) == 0) = false := beq_eq_false_iff_ne.mpr (by omega)
      simp only [poolCovers, found, positive, Bool.false_or]
    intro poolAvailable
    simp only [askReservation, ha, show charge w.qtu j.mono j.colour j.size = c from rfl, parts, covers, shortfall, found]
    refine ⟨fun enough => if_pos (decide_eq_true enough), fun lacks => ?_⟩
    rw [if_neg (by simpa using lacks)]
  · rw [reserve, changeReserved_of_pool ha hp hq]
  · rw [reserve, changeReserved_of_no_pool ha noPool]

end Sys2Proof.People
end

section
/-! PROOF. The settings (R20, R54, R80, R103, R120, R154), and the refusals that the requests on a standing record share: RANGE for
an index out of range, NO_RECORD for a FREE record. -/

namespace Sys2Proof.Refusals

open Sys2Proof.Machine Sys2Proof.Safety Sys2Proof.Laws

/-! ### Settings -/

/-- The alarm condition: an open ticket at or above the alarm level, which 4 disables (R152). -/
theorem alarmCondition_eq (c : Cou) :
    alarmCondition c = decide (c.alarmLevel < 4 ∧ ∃ t ∈ c.tickets, c.alarmLevel ≤ t.level) := by
  rw [Bool.eq_iff_iff]
  simp [alarmCondition]

/-- Settles O31: each handling is one write of its block's settings. -/
theorem settingsChanged : Obligations.SettingsChanged := by
  refine fun s tag => ⟨fun mono colour period taken => exec_answered taken rfl rfl rfl rfl,
    fun hours taken => exec_answered taken rfl rfl rfl rfl, fun f taken => exec_answered taken rfl rfl rfl rfl,
    fun f taken => exec_answered taken rfl rfl rfl rfl, fun shift taken => exec_answered taken rfl rfl rfl rfl,
    fun f taken => ?callouts⟩
  case callouts =>
    intro level c
    have alarm : alarmCondition (setCallouts f s.work.cou) = c.alarm := alarmCondition_eq _
    have work : requestWork (.calloutConfig tag f) s.work =
        ({ s.work with cou := { setCallouts f s.work.cou with alarm := alarmCondition (setCallouts f s.work.cou) } }, ⟨.ok,
          [u32 c.ack0, u32 c.ack1, u32 c.ack2, u32 c.ack3, u32 c.workTime, u8 level, u32 s.cou.lastTicket,
            flag (alarmCondition (setCallouts f s.work.cou))]⟩) := rfl
    rw [alarm] at work
    exact exec_answered taken rfl work rfl rfl

/-! ### Records out of range, and FREE records -/

section
variable {w : Work} {i : Nat}

/-- A handling that refuses an account out of range, and a FREE one. -/
structure ChecksAccount (i : Nat) (h : Work → Work × Answer) (w : Work) : Prop where
  range : 4096 ≤ i → h w = w.refuse .range
  noRecord : i < 4096 → w.adir.accounts.lookup i = none → h w = w.refuse .noRecord

/-- A handling that refuses a pool out of range, and a FREE one. -/
structure ChecksPool (i : Nat) (h : Work → Work × Answer) (w : Work) : Prop where
  range : 64 ≤ i → h w = w.refuse .range
  noRecord : i < 64 → w.adir.pools.lookup i = none → h w = w.refuse .noRecord

/-- A handling that refuses a printer out of range, and a FREE one. -/
structure ChecksPrinter (i : Nat) (h : Work → Work × Answer) (w : Work) : Prop where
  range : 96 ≤ i → h w = w.refuse .range
  noRecord : i < 96 → w.ptb.printers.lookup i = none → h w = w.refuse .noRecord

/-- A handling that refuses a supply type out of range, and a FREE one. -/
structure ChecksType (i : Nat) (h : Work → Work × Answer) (w : Work) : Prop where
  range : 32 ≤ i → h w = w.refuse .range
  noRecord : i < 32 → w.spu.types.lookup i = none → h w = w.refuse .noRecord

theorem onType_of_out_of_range {f : SupplyType → Work × Answer} (h : 32 ≤ i) : onType i f w = w.refuse .range := by
  have : typeRefusal? w.toRecords i = some .range := if_pos h
  simp only [onType, this]

theorem onType_of_free {f : SupplyType → Work × Answer} (hi : i < 32) (h : w.spu.types.lookup i = none) :
    onType i f w = w.refuse .noRecord := by
  have : typeRefusal? w.toRecords i = some .noRecord := (if_neg (Nat.not_le.mpr hi)).trans (by rw [h])
  simp only [onType, this]

theorem checksType_of_onType {h : Work → Work × Answer} {f : SupplyType → Work × Answer} (he : h w = onType i f w) :
    ChecksType i h w :=
  ⟨fun beyond => he.trans (onType_of_out_of_range beyond), fun inside free => he.trans (onType_of_free inside free)⟩

end

section
variable {c : Instr} {i k : Nat} {tag : Tag} {amount : Int} {f : SupplySettings} (w : Work)

theorem checksAccount_request
    (h : c ∈ [.accountRead tag i, .accountSuspend tag i, .accountResume tag i, .accountCredit tag i amount, .peakClear tag i,
        .accountRetire tag i, .jobList tag i k]) : ChecksAccount i (requestWork c) w := by
  simp only [List.mem_cons, List.not_mem_nil, or_false] at h
  rcases h with rfl | rfl | rfl | rfl | rfl | rfl | rfl
  all_goals
    constructor
    · intro outside
      have outside : Config.accounts ≤ i := outside
      simp [requestWork, reads, answerAccountRead, answerJobList, handleAccountSuspend, handleAccountResume, handleAccountCredit,
        handlePeakClear, handleAccountRetire, outside, Work.refuse]
    · intro inside free
      have inside : ¬ Config.accounts ≤ i := Nat.not_le.mpr inside
      simp [requestWork, reads, answerAccountRead, answerJobList, handleAccountSuspend, handleAccountResume, handleAccountCredit,
        handlePeakClear, handleAccountRetire, inside, free, Work.refuse]

theorem checksPool_request (h : c ∈ [.poolRetire tag i, .poolSet tag i k, .poolRead tag i, .poolCredit tag i amount]) :
    ChecksPool i (requestWork c) w := by
  simp only [List.mem_cons, List.not_mem_nil, or_false] at h
  rcases h with rfl | rfl | rfl | rfl
  all_goals
    constructor
    · intro outside
      have outside : Config.pools ≤ i := outside
      simp [requestWork, reads, answerPoolRead, handlePoolRetire, handlePoolSet, handlePoolCredit, outside, Work.refuse]
    · intro inside free
      have inside : ¬ Config.pools ≤ i := Nat.not_le.mpr inside
      simp [requestWork, reads, answerPoolRead, handlePoolRetire, handlePoolSet, handlePoolCredit, inside, free, Work.refuse]

theorem checksPrinter_request
    (h : c ∈ [.next tag i, .previous tag i, .select tag i, .selectAll tag i, .delete tag i, .done tag i, .visitRead tag i,
          .printerRead tag i, .serviceWithdraw tag i, .serviceReturn tag i, .printerRetire tag i, .printerReseat tag i]) :
    ChecksPrinter i (requestWork c) w := by
  simp only [List.mem_cons, List.not_mem_nil, or_false] at h
  rcases h with rfl | rfl | rfl | rfl | rfl | rfl | rfl | rfl | rfl | rfl | rfl | rfl
  all_goals
    constructor
    · intro outside
      have outside : Config.printers ≤ i := outside
      simp [requestWork, reads, handleNext, handlePrevious, handleSelect, handleSelectAll, handleDelete, handleDone, onVisit,
        answerVisitRead, answerPrinterRead, handleServiceWithdraw, handleServiceReturn, handlePrinterRetire, handlePrinterReseat,
        outside, Work.refuse]
    · intro inside free
      have inside : ¬ Config.printers ≤ i := Nat.not_le.mpr inside
      simp [requestWork, reads, handleNext, handlePrevious, handleSelect, handleSelectAll, handleDelete, handleDone, onVisit,
        answerVisitRead, answerPrinterRead, handleServiceWithdraw, handleServiceReturn, handlePrinterRetire, handlePrinterReseat,
        inside, free, Work.refuse]

theorem checksType_request
    (h : c ∈ [.supplySet tag i f, .supplyRead tag i, .supplyRetire tag i, .orderPlaced tag i k, .deliveryReceived tag i k,
          .stockAdjust tag i k]) : ChecksType i (requestWork c) w := by
  simp only [List.mem_cons, List.not_mem_nil, or_false] at h
  rcases h with rfl | rfl | rfl | rfl | rfl | rfl
  case inr.inl =>
    constructor
    · intro outside
      have outside : Config.types ≤ i := outside
      simp [requestWork, reads, answerSupplyRead, outside, Work.refuse]
    · intro inside free
      have inside : ¬ Config.types ≤ i := Nat.not_le.mpr inside
      simp [requestWork, reads, answerSupplyRead, inside, free, Work.refuse]
  all_goals exact checksType_of_onType rfl

/-! ### The requests that check other values first -/

theorem checksAccount_accountSet {f : AccountSet} (hc : ∀ v, f.colour = some v → v ≤ 1) :
    ChecksAccount f.account (handleAccountSet f) w := by
  have colours : yesNos f.colour.toList = true := (yesNos_iff _).mpr fun v hv => hc v (by simpa using hv)
  constructor
  · intro outside
    have outside : Config.accounts ≤ f.account := outside
    simp [handleAccountSet, colours, outside]
  · intro inside free
    have inside : ¬ Config.accounts ≤ f.account := Nat.not_le.mpr inside
    simp [handleAccountSet, colours, inside, free]

theorem checksAccount_badgeBind (hk : k ≠ 0) : ChecksAccount i (handleBadgeBind k i) w := by
  constructor
  · intro outside
    have outside : Config.accounts ≤ i := outside
    simp [handleBadgeBind, outside]
  · intro inside free
    have inside : ¬ Config.accounts ≤ i := Nat.not_le.mpr inside
    simp [handleBadgeBind, hk, inside, free]

theorem handleBadgeUnbind_of_out_of_range (h : 4096 ≤ i) : handleBadgeUnbind k i w = w.refuse .range :=
  if_pos (.inr h)

theorem handleBadgeUnbind_of_unbound (hk : k ≠ 0) (hi : i < 4096) (h : boundTo? w.toRecords k = none) :
    handleBadgeUnbind k i w = w.refuse .noRecord := by
  have inside : ¬ Config.accounts ≤ i := Nat.not_le.mpr hi
  simp [handleBadgeUnbind, hk, inside, h]

theorem checksPrinter_printerSet {q : PrinterSet}
    (hq : ∀ b, b ∈ q.colour.toList ++ q.duplex.toList ++ q.largeTray.toList ++ q.autoReturn.toList
      ++ q.restartPermitted.toList → b ≤ 1) : ChecksPrinter q.printer (handlePrinterSet q) w := by
  have flags := (yesNos_iff _).mpr hq
  constructor
  · intro outside
    have outside : Config.printers ≤ q.printer := outside
    simp only [handlePrinterSet, flags, outside, if_true, ite_self]
  · intro inside free
    have inside : ¬ Config.printers ≤ q.printer := Nat.not_le.mpr inside
    simp only [handlePrinterSet, flags, if_neg inside, free, Bool.not_true, Bool.false_eq_true, if_false]

theorem condSet?_of_lt (hk : k < 128) : condSet? k = some (BitVec.ofNat 7 k) := if_pos hk

theorem checksPrinter_statusReport (hk : k < 128) (readings : List Nat) :
    ChecksPrinter i (handleStatusReport i k readings) w := by
  constructor
  · intro outside
    have outside : Config.printers ≤ i := outside
    simp only [handleStatusReport, condSet?_of_lt hk, if_pos outside]
  · intro inside free
    have inside : ¬ Config.printers ≤ i := Nat.not_le.mpr inside
    simp only [handleStatusReport, condSet?_of_lt hk, if_neg inside, free]

theorem checksPrinter_conditionsClear (hk : k < 128) : ChecksPrinter i (handleConditionsClear i k) w := by
  constructor
  · intro outside
    have outside : Config.printers ≤ i := outside
    simp only [handleConditionsClear, condSet?_of_lt hk, if_pos outside]
  · intro inside free
    have inside : ¬ Config.printers ≤ i := Nat.not_le.mpr inside
    simp only [handleConditionsClear, condSet?_of_lt hk, if_neg inside, free]

theorem slotLetter?_of_le (hk : k ≤ 3) : ∃ l, slotLetter? k = some l := by
  match k, hk with
  | 0, _ => exact ⟨_, rfl⟩
  | 1, _ => exact ⟨_, rfl⟩
  | 2, _ => exact ⟨_, rfl⟩
  | 3, _ => exact ⟨_, rfl⟩

theorem checksPrinter_cartridgeRead (hk : k ≤ 3) : ChecksPrinter i (reads (answerCartridgeRead i k)) w := by
  obtain ⟨l, hl⟩ := slotLetter?_of_le hk
  constructor
  · intro outside
    have outside : Config.printers ≤ i := outside
    simp only [reads, answerCartridgeRead, hl, if_pos outside, Work.refuse]
  · intro inside free
    have inside : ¬ Config.printers ≤ i := Nat.not_le.mpr inside
    simp only [reads, answerCartridgeRead, hl, if_neg inside, free, Work.refuse]

section
variable {letter : Nat} {l : SlotLetter} (hl : slotLetter? letter = some l)
include hl

theorem handleCartridgeInstall_of_out_of_range (h : 96 ≤ i ∨ 32 ≤ k) : handleCartridgeInstall i letter k w = w.refuse .range := by
  have outside : Config.printers ≤ i ∨ Config.types ≤ k := h
  simp only [handleCartridgeInstall, hl, if_pos outside]

theorem handleCartridgeInstall_of_no_printer (hi : i < 96) (hk : k < 32) (h : w.ptb.printers.lookup i = none) :
    handleCartridgeInstall i letter k w = w.refuse .noRecord := by
  have inside : ¬ (Config.printers ≤ i ∨ Config.types ≤ k) := not_or.mpr ⟨Nat.not_le.mpr hi, Nat.not_le.mpr hk⟩
  simp only [handleCartridgeInstall, hl, if_neg inside, h]

/-- The printer of an install runs and has the slot: the type is checked next. -/
theorem handleCartridgeInstall_of_slot {q : Printer} (hi : i < 96) (hk : k < 32) (h : w.ptb.printers.lookup i = some q)
    (runs : Runs q) (slot : l = .k ∨ q.slotCount = 4) :
    handleCartridgeInstall i letter k w =
      onType k (fun t =>
        if t.colour ≠ l ∨ t.modelGroup ≠ q.modelGroup then w.refuse .mismatch else install i l k t w) w := by
  have inside : ¬ (Config.printers ≤ i ∨ Config.types ≤ k) := not_or.mpr ⟨Nat.not_le.mpr hi, Nat.not_le.mpr hk⟩
  have inCount : slotInCount q l = true := by simpa [slotInCount] using slot
  simp only [handleCartridgeInstall, hl, if_neg inside, h, inCount, Bool.not_true, Bool.false_eq_true, if_false]
  split
  · rename_i accepted retiring; exact absurd retiring (runs accepted)
  · rfl

end

/-! ### JOB_SUBMIT (R41) -/

theorem sizeClass?_of_le (hk : k ≤ 2) : ∃ size, sizeClass? k = some size := by
  match k, hk with
  | 0, _ => exact ⟨_, rfl⟩
  | 1, _ => exact ⟨_, rfl⟩
  | 2, _ => exact ⟨_, rfl⟩

section
variable {j : JobSubmit}

theorem handleJobSubmit_of_no_target (h : target? j.targetKind j.targetNumber = none) :
    handleJobSubmit j w = w.refuse .range := by
  simp only [handleJobSubmit, h]
  split
  · rfl
  · cases sizeClass? j.size <;> rfl

variable {size : SizeClass} {target : Target} (hi : j.owner < 4096) (hd : j.duplex ≤ 1)
  (hs : sizeClass? j.size = some size) (ht : target? j.targetKind j.targetNumber = some target) (sides : 0 < j.mono ∨ 0 < j.colour)
include hi hd hs ht sides

/-- A JOB_SUBMIT whose values are in their ranges is checked for its owner, its target, and room. -/
theorem handleJobSubmit_of_range :
    handleJobSubmit j w =
      match ownerRefusal? w.toRecords j.owner j.colour with
      | some o => w.refuse o
      | none => match targetRefusal? w.toRecords target with
        | some o => w.refuse o
        | none => match room w.toRecords j.owner with
          | .full => w.refuse .full
          | .free => submit j size target none w
          | .displacing d => submit j size target (some d) w := by
  have passes : ¬ ((yesNo? j.duplex).isNone = true ∨ Config.accounts ≤ j.owner) := by
    rw [yesNo?_of_le hd]
    exact not_or.mpr ⟨by simp, Nat.not_le.mpr hi⟩
  have some_ : ¬ (j.mono = 0 ∧ j.colour = 0) := by omega
  simp only [handleJobSubmit, if_neg passes, hs, ht, if_neg some_] <;> rfl

end

end

/-- Settles O27: each family of requests by its checks. -/
theorem unknownRecordsRefused : Obligations.UnknownRecordsRefused := by
  intro s tag i k amount f c code hc taken range noRecord noAccount noPrinter
  have account {i : Nat} (h : ChecksAccount i (requestWork c) s.work) : noAccount i :=
    ⟨fun outside => exec_refused taken hc (h.range outside), fun inside free => exec_refused taken hc (h.noRecord inside free)⟩
  have printer {i : Nat} (h : ChecksPrinter i (requestWork c) s.work) : noPrinter i :=
    ⟨fun outside => exec_refused taken hc (h.range outside), fun inside free => exec_refused taken hc (h.noRecord inside free)⟩
  refine ⟨fun h => account (checksAccount_request _ h), fun a ha colour => ?accountSet, fun hk h => ?badgeBind,
    fun hk h => ?badgeUnbind, fun j h => ?jobSubmit, fun h => ?pool, fun h => printer (checksPrinter_request _ h),
    fun q hq flags => ?printerSet, fun readings hk h => ?statusReport, fun hk h => ?conditionsClear,
    fun hk h => ?cartridgeRead, fun letter l hl h => ?cartridgeInstall, fun h => ?type⟩
  case accountSet => subst ha; exact account (checksAccount_accountSet _ colour)
  case badgeBind => subst h; exact account (checksAccount_badgeBind _ hk)
  case badgeUnbind =>
    subst h
    exact ⟨fun outside => exec_refused taken hc (handleBadgeUnbind_of_out_of_range _ outside),
      fun inside unbound => exec_refused taken hc (handleBadgeUnbind_of_unbound _ hk inside unbound)⟩
  case jobSubmit =>
    subst h
    refine ⟨fun outside => ?_, fun kind outside => ?_, fun hi hd hs sides hk => ?_⟩
    · exact exec_refused taken hc (show handleJobSubmit j s.work = _ from if_pos (.inr outside))
    · refine exec_refused taken hc (handleJobSubmit_of_no_target _ ?_)
      rw [kind]
      exact if_neg (Nat.not_lt.mpr outside)
    obtain ⟨size, hs⟩ := sizeClass?_of_le hs
    obtain ⟨target, ht⟩ : ∃ target, target? j.targetKind j.targetNumber = some target := by
      obtain hk | ⟨hk, hn⟩ | ⟨hk, hn⟩ := hk <;> rw [hk]
      · exact ⟨_, rfl⟩
      · exact ⟨_, if_pos hn⟩
      · exact ⟨_, if_pos hn⟩
    have work := handleJobSubmit_of_range s.work hi hd hs ht sides
    refine ⟨fun free => exec_refused taken hc (work.trans ?_), fun a ha active colour kind free =>
      exec_refused taken hc (work.trans ?_)⟩
    · simp only [ownerRefusal?, State.work_toRecords, free]
    · have owner : ownerRefusal? s.toRecords j.owner j.colour = none := by
        simp only [ownerRefusal?, ha, active]
        exact if_neg (by simpa using colour)
      have isPrinter : target = .printer j.targetNumber := by
        rw [kind] at ht
        simp only [target?] at ht
        split at ht
        · exact (Option.some.inj ht).symm
        · cases ht
      simp only [State.work_toRecords, owner, isPrinter, targetRefusal?, free]
  case pool =>
    have checks := checksPool_request s.work h
    exact ⟨fun outside => exec_refused taken hc (checks.range outside),
      fun inside free => exec_refused taken hc (checks.noRecord inside free)⟩
  case printerSet => subst hq; exact printer (checksPrinter_printerSet _ flags)
  case statusReport => subst h; exact printer (checksPrinter_statusReport _ hk readings)
  case conditionsClear => subst h; exact printer (checksPrinter_conditionsClear _ hk)
  case cartridgeRead => subst h; exact printer (checksPrinter_cartridgeRead _ hk)
  case cartridgeInstall =>
    subst h
    refine ⟨fun outside => ?_, fun hi hk free => ?_, fun q hi hk hq runs slot free => ?_⟩
    · exact exec_refused taken hc (handleCartridgeInstall_of_out_of_range _ hl outside)
    · exact exec_refused taken hc (handleCartridgeInstall_of_no_printer _ hl hi hk free)
    · exact exec_refused taken hc
        ((handleCartridgeInstall_of_slot _ hl hi hk hq runs slot).trans (onType_of_free hk free))
  case type =>
    have checks := checksType_request s.work h
    exact ⟨fun outside => exec_refused taken hc (checks.range outside),
      fun inside free => exec_refused taken hc (checks.noRecord inside free)⟩

end Sys2Proof.Refusals
end

section
/-! PROOF. The hold queue: submission (R41 to R43), cancellation and removal (R44, R46), reading (R48, R49), and the two
deadlines of a job in HELD and of an OPEN visit (R45, R68). -/

namespace Sys2Proof.Laws

open Sys2Proof.Machine Sys2Proof.Safety

variable {w : Work} {n i p : Nat}

/-! ### What the keeping of a visit changes -/

theorem openVisit?_of_lookup {r : Records} {a : Account} (ha : r.adir.accounts.lookup i = some a) :
    openVisit? r i = a.openVisit := by
  simp only [openVisit?, ha]

/-- The offer of a job to its owner's visit changes visits alone (R63). -/
theorem offerJob_frame (n i : Nat) (w : Work) : ∃ visits, offerJob n i w = { w with rlu := { w.rlu with visits } } := by
  unfold offerJob
  split
  · exact ⟨w.rlu.visits, rfl⟩
  · split
    · split
      · exact ⟨w.rlu.visits, rfl⟩
      · split
        · exact ⟨_, rfl⟩
        · exact ⟨_, rfl⟩
    · exact ⟨w.rlu.visits, rfl⟩

theorem offerJob_hq (n i : Nat) (w : Work) : (offerJob n i w).hq = w.hq := by
  obtain ⟨visits, h⟩ := offerJob_frame n i w
  rw [h]

theorem offerJob_adir (n i : Nat) (w : Work) : (offerJob n i w).adir = w.adir := by
  obtain ⟨visits, h⟩ := offerJob_frame n i w
  rw [h]

theorem updateAccount_hq (i : Nat) (f : Account → Account) (w : Work) : (w.updateAccount i f).hq = w.hq := by
  unfold Work.updateAccount
  split <;> rfl

theorem closeVisit_hq (p : Nat) (reason : CloseReason) (w : Work) : (closeVisit p reason w).hq = w.hq := by
  unfold closeVisit
  split
  · rfl
  · exact updateAccount_hq _ _ _

theorem visitAfterLeaving_hq (n i : Nat) (w : Work) : (visitAfterLeaving n i w).hq = w.hq := by
  unfold visitAfterLeaving
  split
  · rfl
  · split
    · rfl
    · split <;> rfl
    · split
      · dsimp only
        split
        · exact closeVisit_hq _ _ _
        · rfl
      · rfl

/-- A removal takes the job out of the table and out of its owner's list (R44). -/
theorem removeJob_hq {j : Job} (h : w.hq.jobs.lookup n = some j) (reason : RemovalReason) (left : Nat) :
    (removeJob n reason left w).hq =
      { w.hq with jobs := w.hq.jobs.remove n, lists := w.hq.lists.putList j.owner ((w.hq.lists.list j.owner).erase n) } := by
  simp only [removeJob, h, Work.raise_toRecords]
  rw [leaveQueue, visitAfterLeaving_hq]
  exact congrArg (fun q : Hq => { q with jobs := q.jobs.remove n }) (updateAccount_hq _ _ _)

/-- A removal, written out (R44). -/
theorem removeJob_of_lookup {j : Job} {a : Account} (h : w.hq.jobs.lookup n = some j)
    (ha : w.adir.accounts.lookup j.owner = some a) (reason : RemovalReason) (left : Nat) :
    removeJob n reason left w =
      (visitAfterLeaving n j.owner
        (((w.setJobList j.owner ((w.hq.lists.list j.owner).erase n)).setAccount j.owner
          { a with liveJobs := a.liveJobs - 1 }).dropJob n)).raise
        .jobRemoved n [u16 n, u16 j.owner, u8 reason.code, u8 left, u8 j.attempts] := by
  simp only [removeJob, h, leaveQueue]
  rw [updateAccount_of_lookup (by exact ha)]
  rfl

theorem visitAfterLeaving_of_none {a : Account} (ha : w.adir.accounts.lookup i = some a) (hv : a.openVisit = none) :
    visitAfterLeaving n i w = w := by
  simp only [visitAfterLeaving, openVisit?_of_lookup ha, hv]

section
variable {a : Account} (ha : w.adir.accounts.lookup i = some a) (hp : a.openVisit = some p)
include ha hp

/-- A job of the menu leaves the queue: the menu is refilled (R62). -/
theorem visitAfterLeaving_of_menu {v : OpenVisit} (hv : w.rlu.visits.lookup p = some (.opened v)) (hn : n ∈ v.menu) :
    visitAfterLeaving n i w = w.setVisit p (.opened (leaveMenu w.toRecords p n v)) := by
  simp only [visitAfterLeaving, openVisit?_of_lookup ha, hp, hv]
  exact if_pos (List.contains_iff_mem.mpr hn)

/-- A job that is not in the menu leaves the queue: the more count is counted afresh (R62). -/
theorem visitAfterLeaving_of_more {v : OpenVisit} (hv : w.rlu.visits.lookup p = some (.opened v)) (hn : n ∉ v.menu) :
    visitAfterLeaving n i w = w.setVisit p (.opened { v with more := countMore w.toRecords p v }) := by
  simp only [visitAfterLeaving, openVisit?_of_lookup ha, hp, hv]
  exact if_neg (mt List.contains_iff_mem.mp hn)

variable {d : DrainVisit} (hd : w.rlu.visits.lookup p = some (.draining d))
include hd

theorem visitAfterLeaving_of_undrained (hn : n ∉ d.jobs) : visitAfterLeaving n i w = w := by
  simp only [visitAfterLeaving, openVisit?_of_lookup ha, hp, hd]
  exact if_neg (mt List.contains_iff_mem.mp hn)

/-- A job of a drain list leaves the queue and the list (R71). -/
theorem visitAfterLeaving_of_drained (hn : n ∈ d.jobs) (rest : d.jobs.erase n ≠ []) :
    visitAfterLeaving n i w = w.setVisit p (.draining { d with jobs := d.jobs.erase n }) := by
  simp only [visitAfterLeaving, openVisit?_of_lookup ha, hp, hd]
  rw [if_pos (List.contains_iff_mem.mpr hn)]
  exact if_neg (by simpa using rest)

/-- The last job of a drain list leaves the queue: the drain ends (R71). -/
theorem visitAfterLeaving_of_last (hn : n ∈ d.jobs) (last : d.jobs.erase n = []) :
    visitAfterLeaving n i w = closeVisit p .drained (w.setVisit p (.draining { d with jobs := d.jobs.erase n })) := by
  simp only [visitAfterLeaving, openVisit?_of_lookup ha, hp, hd]
  rw [if_pos (List.contains_iff_mem.mpr hn)]
  exact if_pos (by simpa using last)

end

/-! ### Room for a submission, and its number (R39, R42) -/

theorem isHeld_iff {r : Records} {n : Nat} : isHeld r n = true ↔ ∃ j, r.hq.jobs.lookup n = some j ∧ j.stage = .held := by
  unfold isHeld
  split
  · rename_i h; simp [h]
  · rename_i j h; simp [h]

section
variable {r : Records} {list : List Nat} (hl : r.hq.lists.list i = list)
include hl

theorem room_of_free (short : list.length < 32) (few : r.hq.jobs.length < 2048) : room r i = .free := by
  subst hl
  exact (if_pos short).trans (if_pos few)

theorem room_of_full_table (short : list.length < 32) (many : 2048 ≤ r.hq.jobs.length) : room r i = .full := by
  subst hl
  exact (if_pos short).trans (if_neg (Nat.not_lt.mpr many))

theorem room_of_none_held (long : 32 ≤ list.length) (busy : ∀ n ∈ list, isHeld r n = false) : room r i = .full := by
  subst hl
  have none_ : (jobList r i).find? (isHeld r) = none := by simpa [jobList] using busy
  simp only [room, none_]
  exact if_neg (Nat.not_lt.mpr long)

theorem room_of_oldest {before after : List Nat} {oldest : Nat} (long : 32 ≤ list.length)
    (parts : list = before ++ oldest :: after) (busy : ∀ n ∈ before, isHeld r n = false) (held : isHeld r oldest = true) :
    room r i = .displacing oldest := by
  subst hl
  have found : (jobList r i).find? (isHeld r) = some oldest := by
    rw [jobList, parts, List.find?_append, List.find?_eq_none.mpr (by simpa using busy), List.find?_cons_of_pos held]
    rfl
  simp only [room, found]
  exact if_neg (Nat.not_lt.mpr long)

end

theorem length_indices {α : Type} (t : Table α) : t.indices.length = t.length := List.length_map _

/-- With fewer live jobs than there are numbers, the number of a submission is the next that no live job holds (R39). -/
theorem nextJob_next {r : Records} (h : r.hq.jobs.length < 65535) :
    nextNumber 65535 (r.hq.jobs.map (·.1)) r.hq.lastJob (nextJob r) := by
  have next := nextFree_next r.hq.jobs.indices r.hq.lastJob (top := 65535) (by rwa [length_indices])
  rwa [length_indices] at next

theorem lookup_eq_none_of_not_mem {α : Type} {t : Table α} (h : n ∉ t.map (·.1)) : t.lookup n = none := by
  cases hn : t.lookup n with
  | none => rfl
  | some v => exact absurd (List.mem_map_of_mem (Table.mem_of_lookup hn)) h

theorem indices_remove {α : Type} (t : Table α) : (t.remove n).map (·.1) = (t.map (·.1)).filter (· != n) := by
  rw [Table.remove, List.filter_map]
  rfl

/-- A list that is not empty is put as it is. -/
theorem putList_of_ne_nil {α : Type} (t : Table (List α)) {l : List α} (h : l ≠ []) : t.putList i l = t.put i l := by
  rw [Table.putList, if_neg (by simpa using h)]

/-! ### What the entry of a job writes (R43) -/

theorem enterJob_hq (j : Job) :
    (enterJob n j w).hq =
      { w.hq with
        jobs := w.hq.jobs.put n j, lists := w.hq.lists.put j.owner (w.hq.lists.list j.owner ++ [n]), lastJob := n } := by
  simp only [enterJob, offerJob_hq, updateAccount_hq]
  rw [Work.setJobList, putList_of_ne_nil _ (by simp)]
  rfl

theorem enterJob_adir {j : Job} {a : Account} (ha : w.adir.accounts.lookup j.owner = some a) :
    (enterJob n j w).adir =
      { w.adir with accounts := w.adir.accounts.put j.owner { a with liveJobs := a.liveJobs + 1 } } := by
  simp only [enterJob, offerJob_adir]
  rw [updateAccount_of_lookup (by exact ha)]
  rfl

end Sys2Proof.Laws

namespace Sys2Proof.Hold

open Sys2Proof.Machine Sys2Proof.Safety Sys2Proof.Laws Sys2Proof.People Sys2Proof.Refusals

/-! ### JOB_SUBMIT (R41 to R43) -/

theorem sizeClass?_of_lt {k : Nat} (h : 2 < k) : sizeClass? k = none := by
  match k, h with
  | _ + 3, _ => rfl

theorem target?_of_lt {k : Nat} (number : Nat) (h : 2 < k) : target? k number = none := by
  match k, h with
  | _ + 3, _ => rfl

section
variable {f : JobSubmit} (w : Work)

theorem handleJobSubmit_of_bad_value
    (h : 1 < f.duplex ∨ 2 < f.size ∨ 2 < f.targetKind ∨ (f.targetKind = 1 ∧ 128 ≤ f.targetNumber) ∨ (f.mono = 0 ∧ f.colour = 0)) :
    handleJobSubmit f w = w.refuse .range := by
  obtain h | h | h | ⟨kind, h⟩ | h := h
  · exact if_pos (.inl (by rw [yesNo?_of_lt h]; rfl))
  · simp only [handleJobSubmit, sizeClass?_of_lt h, ite_self]
  · exact handleJobSubmit_of_no_target w (target?_of_lt _ h)
  · refine handleJobSubmit_of_no_target w ?_
    rw [kind]
    exact if_neg (Nat.not_lt.mpr h)
  · simp only [handleJobSubmit, if_pos h]
    split
    · rfl
    · split <;> rfl

variable {size : SizeClass} {target : Target} (hi : f.owner < 4096) (hd : f.duplex ≤ 1)
  (hs : sizeClass? f.size = some size) (ht : target? f.targetKind f.targetNumber = some target) (sides : 0 < f.mono ∨ 0 < f.colour)
include hi hd hs ht sides

theorem handleJobSubmit_of_owner {o : ReplyOutcome} (ho : ownerRefusal? w.toRecords f.owner f.colour = some o) :
    handleJobSubmit f w = w.refuse o := by
  simp only [handleJobSubmit_of_range w hi hd hs ht sides, ho]

variable (ho : ownerRefusal? w.toRecords f.owner f.colour = none)
include ho

theorem handleJobSubmit_of_target {o : ReplyOutcome} (hr : targetRefusal? w.toRecords target = some o) :
    handleJobSubmit f w = w.refuse o := by
  simp only [handleJobSubmit_of_range w hi hd hs ht sides, ho, hr]

variable (hr : targetRefusal? w.toRecords target = none)
include hr

theorem handleJobSubmit_of_full (h : room w.toRecords f.owner = .full) : handleJobSubmit f w = w.refuse .full := by
  simp only [handleJobSubmit_of_range w hi hd hs ht sides, ho, hr, h]

theorem handleJobSubmit_of_free (h : room w.toRecords f.owner = .free) :
    handleJobSubmit f w = submit f size target none w := by
  simp only [handleJobSubmit_of_range w hi hd hs ht sides, ho, hr, h]

theorem handleJobSubmit_of_displacing {d : Nat} (h : room w.toRecords f.owner = .displacing d) :
    handleJobSubmit f w = submit f size target (some d) w := by
  simp only [handleJobSubmit_of_range w hi hd hs ht sides, ho, hr, h]

end

section
variable {r : Records} {i colour : Nat} {a : Account} (ha : r.adir.accounts.lookup i = some a)
include ha

theorem ownerRefusal?_of_suspended (h : a.state = .suspended) : ownerRefusal? r i colour = some .state := by
  simp only [ownerRefusal?, ha, h]

theorem ownerRefusal?_of_retiring {accepted : Nat} (h : a.state = .retiring accepted) :
    ownerRefusal? r i colour = some .retiring := by
  simp only [ownerRefusal?, ha, h]

theorem ownerRefusal?_of_colour (h : a.state = .active) (hc : 0 < colour) (no : a.colour = false) :
    ownerRefusal? r i colour = some .notPermitted := by
  simp only [ownerRefusal?, ha, h]
  exact if_pos (by simp [hc, no])

theorem ownerRefusal?_of_allowed (h : a.state = .active) (allowed : 0 < colour → a.colour = true) :
    ownerRefusal? r i colour = none := by
  simp only [ownerRefusal?, ha, h]
  exact if_neg (by simpa using allowed)

end

theorem targetRefusal?_of_retiring {r : Records} {p accepted : Nat} {q : Printer} (hq : r.ptb.printers.lookup p = some q)
    (h : q.state = .retiring accepted) : targetRefusal? r (.printer p) = some .retiring := by
  simp only [targetRefusal?, hq, h]

theorem targetRefusal?_of_allowed {r : Records} {target : Target}
    (h : ∀ p, target = .printer p → ∃ q, r.ptb.printers.lookup p = some q ∧ ∀ accepted, q.state ≠ .retiring accepted) :
    targetRefusal? r target = none := by
  cases target with
  | any => rfl
  | floor k => rfl
  | printer p =>
    obtain ⟨q, hq, stays⟩ := h p rfl
    cases h : q.state with
    | retiring accepted => exact absurd h (stays accepted)
    | _ => simp only [targetRefusal?, hq, h]

theorem liveCount_of_lookup {r : Records} {i : Nat} {a : Account} (ha : r.adir.accounts.lookup i = some a) :
    liveCount r i = a.liveJobs := by
  simp only [liveCount, ha]

/-- Settles O32: the checks in their order, then one case for each answer of `room`. -/
theorem jobSubmitted : Obligations.JobSubmitted := by
  intro s tag f taken refused
  refine ⟨fun h => exec_refused taken rfl (handleJobSubmit_of_bad_value _ h), fun size target a hi hd hs ht sides ha => ?_⟩
  have owner {o : ReplyOutcome} (ho : ownerRefusal? s.toRecords f.owner f.colour = some o) : refused o :=
    exec_refused taken rfl (handleJobSubmit_of_owner s.work hi hd hs ht sides ho)
  refine ⟨fun h => owner (ownerRefusal?_of_suspended ha h), fun _ h => owner (ownerRefusal?_of_retiring ha h),
    fun h hc no => owner (ownerRefusal?_of_colour ha h hc no), fun p q accepted h allowed isPrinter hq retiring => ?_,
    fun h allowed stays => ?_⟩
  · subst isPrinter
    exact exec_refused taken rfl (handleJobSubmit_of_target s.work hi hd hs ht sides (ownerRefusal?_of_allowed ha h allowed)
      (targetRefusal?_of_retiring hq retiring))
  have ho : ownerRefusal? s.work.toRecords f.owner f.colour = none := ownerRefusal?_of_allowed ha h allowed
  have hr : targetRefusal? s.work.toRecords target = none := targetRefusal?_of_allowed stays
  have full (h : room s.toRecords f.owner = .full) : refused .full :=
    exec_refused taken rfl (handleJobSubmit_of_full s.work hi hd hs ht sides ho hr h)
  intro list j n
  have job : submittedJob f size target s.work.now s.work.hq.holdHours = j := rfl
  refine ⟨fun short few => ?free, fun short many => full (room_of_full_table rfl short many),
    fun long busy => full (room_of_none_held rfl long busy), ?displaced⟩
  case free =>
    have work := handleJobSubmit_of_free s.work hi hd hs ht sides ho hr (room_of_free rfl short few)
    obtain ⟨low, high⟩ := nextJob_bounds s.toRecords
    have next : nextNumber 65535 (s.hq.jobs.map (·.1)) s.hq.lastJob n := nextJob_next (by omega)
    have new : s.hq.jobs.lookup n = none := by
      obtain ⟨-, -, unused, -⟩ := next
      exact lookup_eq_none_of_not_mem unused
    have entered : (enterJob n j s.work).adir = _ := enterJob_adir (by exact ha)
    refine ⟨exec_ok taken rfl (work.trans ?_), low, Nat.le_of_lt_succ high, new, next, enterJob_hq j, entered⟩
    have count : liveCount (enterJob n j s.work).toRecords f.owner = a.liveJobs + 1 :=
      liveCount_of_lookup (a := { a with liveJobs := a.liveJobs + 1 }) (by rw [entered]; exact Table.lookup_put_self _ _ _)
    simp only [submit, job]
    rw [show nextJob s.work.toRecords = n from rfl, count]
    rfl
  case displaced =>
    intro before oldest after long parts busy held w w'
    have work := handleJobSubmit_of_displacing s.work hi hd hs ht sides ho hr (room_of_oldest rfl long parts busy held)
    refine ⟨exec_ok taken rfl work, fun few => ?_⟩
    obtain ⟨k, hk, -⟩ := isHeld_iff.mp held
    have hq := removeJob_hq (w := s.work) hk .displaced 0
    have next := nextJob_next (r := w.toRecords) (by
      have : (s.hq.jobs.remove oldest).length ≤ s.hq.jobs.length := List.length_filter_le _ _
      rw [hq]
      exact Nat.lt_of_le_of_lt (this.trans few) (by decide))
    rwa [hq, indices_remove] at next

/-! ### JOB_CANCEL and removals (R44, R46) -/

section
variable (w : Work) {n i : Nat}

theorem cancelJob_of_out_of_range (h : n = 0 ∨ 65535 < n ∨ 4096 ≤ i) : cancelJob n i w = w.refuse .range := if_pos h

variable (low : 1 ≤ n) (high : n ≤ 65535) (hi : i < 4096)
include low high hi

theorem cancelJob_of_none (h : w.hq.jobs.lookup n = none) : cancelJob n i w = w.refuse .noRecord := by
  have inside : ¬ (n = 0 ∨ Config.maxJob < n ∨ Config.accounts ≤ i) := by simp only [Config.maxJob, Config.accounts]; omega
  simp only [cancelJob, if_neg inside, h]

variable {j : Job} (hj : w.hq.jobs.lookup n = some j)
include hj

theorem cancelJob_of_mismatch (h : j.owner ≠ i) : cancelJob n i w = w.refuse .mismatch := by
  have inside : ¬ (n = 0 ∨ Config.maxJob < n ∨ Config.accounts ≤ i) := by simp only [Config.maxJob, Config.accounts]; omega
  simp only [cancelJob, if_neg inside, hj, if_pos h]

variable (own : j.owner = i)
include own

theorem cancelJob_of_held (h : j.stage = .held) :
    cancelJob n i w = (removeJob n .cancelled 0 w).ok [u8 0, .absent, .absent] := by
  have inside : ¬ (n = 0 ∨ Config.maxJob < n ∨ Config.accounts ≤ i) := by simp only [Config.maxJob, Config.accounts]; omega
  simp only [cancelJob, if_neg inside, hj, if_neg (not_not.mpr own), h]
  rfl

theorem cancelJob_of_releasing {g : Grant} (h : j.stage = .releasing g) :
    cancelJob n i w =
      (completePrinter g.printer (completeAccount i
        (removeJob n .cancelled 1 (leaveFlight g.printer n i (refund i g w))))).ok
        [u8 1, u32 g.accountPart, u32 g.poolPart] := by
  have inside : ¬ (n = 0 ∨ Config.maxJob < n ∨ Config.accounts ≤ i) := by simp only [Config.maxJob, Config.accounts]; omega
  subst own
  simp only [cancelJob, if_neg inside, hj, if_neg (not_not.mpr rfl), h]
  rfl

theorem cancelJob_of_printing {g : Grant} {accepted : Nat} (h : j.stage = .printing g accepted) :
    cancelJob n i w = w.refuse .state := by
  have inside : ¬ (n = 0 ∨ Config.maxJob < n ∨ Config.accounts ≤ i) := by simp only [Config.maxJob, Config.accounts]; omega
  simp only [cancelJob, if_neg inside, hj, if_neg (not_not.mpr own), h]

end

/-- Settles O33: the cancellation by the job's stage, and the visit after a removal by what the visit is. -/
theorem jobCancelled : Obligations.JobCancelled := by
  refine ⟨fun s tag n i taken => ⟨fun h => exec_refused taken rfl (cancelJob_of_out_of_range _ h),
    fun low high hi h => exec_refused taken rfl (cancelJob_of_none _ low high hi h)⟩, ?_⟩
  intro s tag n i j hj low high hi
  refine ⟨fun taken => ⟨fun h => ?_, fun own h => ?_, fun g own h => ?_, fun g accepted own h => ?_⟩,
    fun reason left a ha => ?_, fun w a p ha hp => ⟨fun v hv hn => visitAfterLeaving_of_menu ha hp hv hn,
      fun v hv hn => visitAfterLeaving_of_more ha hp hv hn, fun d hd => ?_⟩⟩
  · exact exec_refused taken rfl (cancelJob_of_mismatch s.work low high hi hj h)
  · exact exec_ok taken rfl (cancelJob_of_held s.work low high hi hj own h)
  · exact exec_ok taken rfl (cancelJob_of_releasing s.work low high hi hj own h)
  · exact exec_refused taken rfl (cancelJob_of_printing s.work low high hi hj own h)
  · have removed := removeJob_of_lookup (w := s.work) hj ha reason left
    refine ⟨removed, fun noVisit => ?_⟩
    rw [removed, visitAfterLeaving_of_none (a := { a with liveJobs := a.liveJobs - 1 }) (Table.lookup_put_self _ _ _) noVisit]
    rfl
  · exact ⟨fun hn => visitAfterLeaving_of_undrained ha hp hd hn, fun hn rest => visitAfterLeaving_of_drained ha hp hd hn rest,
      fun hn last => visitAfterLeaving_of_last ha hp hd hn last⟩

/-! ### Reading jobs (R48, R49) -/

theorem compound_parts (x y : Nat) : compound [u32 x, u32 y] = .bytes (beBytes 4 x ++ beBytes 4 y) := by
  simp only [compound, u32, Field.encode, List.flatMap_cons, List.flatMap_nil, List.append_nil]

theorem answerJobRead_of_lookup {r : Records} {n : Nat} {j : Job} {a : Account} (hn : n ≠ 0) (hj : r.hq.jobs.lookup n = some j)
    (ha : r.adir.accounts.lookup j.owner = some a) :
    answerJobRead n r = answer .ok (jobFields n j ++ [u8 a.state.code]) := by
  simp only [answerJobRead, if_neg hn, hj, accountStateCode, ha]

theorem answerJobList_of_lookup {r : Records} {i position : Nat} {a : Account} (hi : i < 4096)
    (ha : r.adir.accounts.lookup i = some a) :
    answerJobList i position r =
      answer .ok [u8 a.liveJobs, listField (jobListEntry r) (((r.hq.lists.list i).drop position).take 4),
        u16 (position + (((r.hq.lists.list i).drop position).take 4).length)] := by
  simp only [answerJobList, if_neg (inAccounts hi), ha]
  rfl

/-- The list of a page, encoded entry by entry. -/
theorem listField_jobListEntry {r : Records} {jobs : List (Nat × Job)} (h : ∀ e ∈ jobs, r.hq.jobs.lookup e.1 = some e.2) :
    listField (jobListEntry r) (jobs.map (·.1)) =
      .bytes (jobs.flatMap fun e =>
        beBytes 2 e.1 ++ beBytes 1 e.2.stage.code ++ beBytes 1 e.2.size.code ++ beBytes 2 e.2.mono ++ beBytes 2 e.2.colour
          ++ (targetParts e.2.target).flatMap Field.encode ++ beBytes 4 e.2.expiry.value) := by
  rw [listField, List.flatMap_map]
  refine congrArg Field.bytes (List.flatMap_congr fun e he => ?_)
  simp only [jobListEntry, h e he, List.flatMap_append, List.flatMap_cons, List.flatMap_nil, List.append_nil, u8, u16, u32,
    deadlineField, Field.encode, List.append_assoc]

/-- Settles O34. -/
theorem jobsRead : Obligations.JobsRead := by
  refine ⟨fun s tag n taken => ⟨fun zero => exec_reads taken rfl rfl (if_pos zero), fun hn none_ => ?_, ?_⟩,
    fun s tag i position taken => ⟨fun outside => exec_reads taken rfl rfl (if_pos outside), fun hi free => ?_, ?_⟩⟩
  · refine exec_reads taken rfl rfl ?_
    simp only [answerJobRead, if_neg hn, none_, refuse]
  · intro j a hn hj ha common granted
    have reads_ := answerJobRead_of_lookup hn hj ha
    refine ⟨fun h => exec_reads taken rfl rfl (reads_.trans ?_), fun g h => exec_reads taken rfl rfl (reads_.trans ?_),
      fun g accepted h => exec_reads taken rfl rfl (reads_.trans ?_)⟩ <;>
      simp only [jobFields, common, granted, h, Stage.grant?, Stage.accepted?, Option.map, opt, compound_parts] <;> rfl
  · refine exec_reads taken rfl rfl ?_
    simp only [answerJobList, if_neg (inAccounts hi), free, refuse]
  · intro a jobs hi ha page standing entry
    refine exec_reads taken rfl rfl ?_
    rw [answerJobList_of_lookup hi ha, ← page, listField_jobListEntry standing, List.length_map]
    rfl

/-! ### The two deadlines (R45, R68) -/

/-- With main power, an event is its handling (R168). -/
theorem exec_passed {c : Instr} {s : State} {f : Work → Work} {w : Work} (power : s.lnk.mainPower = true)
    (hc : exec c s = .next (takeEvent f s)) (hf : f s.work = w) : exec c s = .next (passed s w) := by
  rw [hc, takeEvent_of_power power, hf]

theorem expiryFalls_of_due {w : Work} {n : Nat} {j : Job} (hj : w.hq.jobs.lookup n = some j) (held : j.stage = .held)
    (due : fallen w.now j.expiry) : expiryFalls n w = removeJob n .expired 0 w := by
  simp only [expiryFalls, hj]
  exact if_pos ⟨held, (reached_iff_fallen _ _).mpr due⟩

theorem expiryFalls_of_not_due {w : Work} {n : Nat} {j : Job} (hj : w.hq.jobs.lookup n = some j)
    (h : j.stage ≠ .held ∨ ¬ fallen w.now j.expiry) : expiryFalls n w = w := by
  simp only [expiryFalls, hj]
  exact if_neg (by rw [reached_iff_fallen]; tauto)

/-- Settles O35. -/
theorem expiryAndIdleDeadlines : Obligations.ExpiryAndIdleDeadlines := by
  intro s power
  refine ⟨fun n j hj => ⟨fun held due => ?_, fun h => ?_⟩, fun p v a hv ha => ⟨fun due => ?_, fun notDue => ?_⟩⟩
  · exact exec_passed power rfl (expiryFalls_of_due (w := s.work) hj held due)
  · exact exec_passed power rfl (expiryFalls_of_not_due (w := s.work) hj h)
  · refine exec_passed power rfl ?_
    have closed : idleFalls p s.work = closeVisit p .timeout s.work := by
      simp only [idleFalls, State.work_toRecords, hv]
      exact if_pos ((reached_iff_fallen _ _).mpr due)
    rw [closed]
    exact closeVisit_of_lookup (w := s.work) hv ha
  · refine exec_passed power rfl ?_
    simp only [idleFalls, State.work_toRecords, hv]
    exact if_neg (mt (reached_iff_fallen _ _).mp notDue)

end Sys2Proof.Hold
end

section
/-! PROOF. Visits at the release terminals: a badge presented (R59 to R61), and the terminal keys (R64 to R69). -/

namespace Sys2Proof.Laws

open Sys2Proof.Machine Sys2Proof.Safety

/-! ### What a visit's keeping does to the accounts: nothing but their open visits -/

/-- Two account tables that differ in the open visits of their accounts alone. -/
def SameButVisits (t u : Table Account) : Prop :=
  ∀ i, ∃ o, u.lookup i = (t.lookup i).map fun a => { a with openVisit := o }

theorem SameButVisits.refl (t : Table Account) : SameButVisits t t := by
  intro i
  cases h : t.lookup i with
  | none => exact ⟨none, rfl⟩
  | some a => exact ⟨a.openVisit, rfl⟩

theorem SameButVisits.trans {t u v : Table Account} (h : SameButVisits t u) (k : SameButVisits u v) : SameButVisits t v := by
  intro i
  obtain ⟨o, ho⟩ := h i
  obtain ⟨o', ho'⟩ := k i
  refine ⟨o', ?_⟩
  rw [ho', ho, Option.map_map]
  rfl

/-- A closed visit changes the visits, the open visit of an account, and the notices. -/
theorem closeVisit_frame (p : Nat) (reason : CloseReason) (w : Work) :
    ∃ visits accounts raised,
      closeVisit p reason w =
        { w with rlu := { w.rlu with visits }, adir := { w.adir with accounts }, raised }
      ∧ SameButVisits w.adir.accounts accounts := by
  unfold closeVisit
  split
  · exact ⟨w.rlu.visits, w.adir.accounts, w.raised, rfl, .refl _⟩
  · rename_i v hv
    cases ha : w.adir.accounts.lookup v.account with
    | none =>
      refine ⟨w.rlu.visits.remove p, w.adir.accounts, (w.raise .visitClosed p ([u8 p, u16 v.account, u8 reason.code] ++ v.drainCounts)).raised, ?_, .refl _⟩
      simp only [Work.updateAccount, Work.dropVisit_adir, ha]
      rfl
    | some a =>
      refine ⟨w.rlu.visits.remove p, w.adir.accounts.put v.account { a with openVisit := none },
        (w.raise .visitClosed p ([u8 p, u16 v.account, u8 reason.code] ++ v.drainCounts)).raised, ?_, fun i => ?_⟩
      · rw [updateAccount_of_lookup (by exact ha)]
        rfl
      · rw [Table.lookup_put]
        split
        · subst i
          exact ⟨none, by rw [ha]; rfl⟩
        · exact SameButVisits.refl _ i

/-- The account's own visit at another terminal is closed (R60). -/
def closeElsewhere (p i : Nat) (w : Work) : Work :=
  match openVisit? w.toRecords i with
  | none => w
  | some k => if k = p then w else closeVisit k .taken w

theorem clearTheWay_eq (p i : Nat) (w : Work) : clearTheWay p i w = clearHere p i (closeElsewhere p i w) := rfl

theorem closeElsewhere_eq_or (p i : Nat) (w : Work) :
    closeElsewhere p i w = w ∨ ∃ k, closeElsewhere p i w = closeVisit k .taken w := by
  unfold closeElsewhere
  split
  · exact .inl rfl
  · split
    · exact .inl rfl
    · exact .inr ⟨_, rfl⟩

theorem clearTheWay_frame (p i : Nat) (w : Work) :
    ∃ visits accounts raised,
      clearTheWay p i w = { w with rlu := { w.rlu with visits }, adir := { w.adir with accounts }, raised }
      ∧ SameButVisits w.adir.accounts accounts := by
  obtain ⟨visits, accounts, raised, own, same⟩ : ∃ visits accounts raised,
      closeElsewhere p i w = { w with rlu := { w.rlu with visits }, adir := { w.adir with accounts }, raised }
      ∧ SameButVisits w.adir.accounts accounts := by
    obtain h | ⟨k, h⟩ := closeElsewhere_eq_or p i w <;> rw [h]
    · exact ⟨w.rlu.visits, w.adir.accounts, w.raised, rfl, .refl _⟩
    · exact closeVisit_frame _ _ _
  rw [clearTheWay_eq]
  obtain ⟨h, -⟩ | ⟨-, h⟩ := clearHere_cases p i (closeElsewhere p i w) <;> rw [h, own]
  · exact ⟨visits, accounts, raised, rfl, same⟩
  · obtain ⟨visits', accounts', raised', here, same'⟩ :=
      closeVisit_frame p .taken { w with rlu := { w.rlu with visits }, adir := { w.adir with accounts }, raised }
    exact ⟨visits', accounts', raised', here, same.trans same'⟩

/-- Whether a job is eligible does not depend on any visit. -/
theorem failure?_sameButVisits {r : Records} {visits : Table Visit} {accounts : Table Account}
    (h : SameButVisits r.adir.accounts accounts) (p : Nat) (j : Job) :
    failure? { r with rlu := { r.rlu with visits }, adir := { r.adir with accounts } } p j = failure? r p j := by
  have colour : ownerColour { r with rlu := { r.rlu with visits }, adir := { r.adir with accounts } } j.owner =
      ownerColour r j.owner := by
    obtain ⟨o, ho⟩ := h j.owner
    cases ha : r.adir.accounts.lookup j.owner with
    | none => simp only [ownerColour, ho, ha, Option.map_none]
    | some a => simp only [ownerColour, ho, ha, Option.map_some]
  simp only [failure?, colour]
  rfl

/-- What a presentation asks about an account's jobs does not depend on any visit. -/
theorem eligibleJobs_sameButVisits {r : Records} {visits : Table Visit} {accounts : Table Account}
    (h : SameButVisits r.adir.accounts accounts) (p i : Nat) :
    eligibleJobs { r with rlu := { r.rlu with visits }, adir := { r.adir with accounts } } p i = eligibleJobs r p i := by
  refine List.filter_congr fun n _ => ?_
  rw [eligible, eligible]
  simp only [failure?_sameButVisits h]

theorem waitsForSupply_sameButVisits {r : Records} {visits : Table Visit} {accounts : Table Account}
    (h : SameButVisits r.adir.accounts accounts) (p : Nat) :
    waitsForSupply { r with rlu := { r.rlu with visits }, adir := { r.adir with accounts } } p = waitsForSupply r p := by
  funext n
  rw [waitsForSupply, waitsForSupply]
  simp only [failure?_sameButVisits h]

end Sys2Proof.Laws

namespace Sys2Proof.Release

open Sys2Proof.Machine Sys2Proof.Safety Sys2Proof.Laws Sys2Proof.People Sys2Proof.Hold

theorem inPrinters {p : Nat} (h : p < 96) : ¬ Config.printers ≤ p := Nat.not_le.mpr h

/-! ### BADGE_PRESENTED (R59 to R61) -/

section
variable {w : Work} {p code i : Nat} {a : Account}

theorem handleBadgePresented_of_unbound (h : ∀ b ∈ w.adir.badges, b.code ≠ code) :
    handleBadgePresented p code w = w.refuse .noRecord := by
  have none_ : w.adir.badges.find? (fun b => b.code == code) = none := List.find?_eq_none.mpr (by simpa using h)
  simp only [handleBadgePresented, none_]

/-- The binding a presented code is found in. -/
theorem binding_of_boundTo? {r : Records} (h : boundTo? r code = some i) :
    ∃ b, r.adir.badges.find? (fun b => b.code == code) = some b ∧ b.account = i := by
  simpa [boundTo?] using h

variable (bound : boundTo? w.toRecords code = some i) (ha : w.adir.accounts.lookup i = some a)
include bound ha

theorem handleBadgePresented_of_suspended (h : a.state = .suspended) :
    handleBadgePresented p code w = (w, ⟨.state, [u16 i]⟩) := by
  obtain ⟨b, hb, rfl⟩ := binding_of_boundTo? bound
  simp only [handleBadgePresented, hb, ha, h]
  rfl

theorem handleBadgePresented_of_retiring {accepted : Nat} (h : a.state = .retiring accepted) :
    handleBadgePresented p code w = (w, ⟨.retiring, [u16 i]⟩) := by
  obtain ⟨b, hb, rfl⟩ := binding_of_boundTo? bound
  simp only [handleBadgePresented, hb, ha, h]
  rfl

variable (active : a.state = .active)
include active

theorem handleBadgePresented_of_printer {o : ReplyOutcome} {rest : List Field}
    (h : badgePrinterRefusal? w.toRecords p = some (o, rest)) :
    handleBadgePresented p code w = (w, ⟨o, u16 i :: rest⟩) := by
  obtain ⟨b, hb, rfl⟩ := binding_of_boundTo? bound
  simp only [handleBadgePresented, hb, ha, active, h]
  rfl

variable (h : badgePrinterRefusal? w.toRecords p = none)
include h

theorem handleBadgePresented_of_drain_here (here : draining w.toRecords p = true) :
    handleBadgePresented p code w = (w, ⟨.busy, [u16 i]⟩) := by
  obtain ⟨b, hb, rfl⟩ := binding_of_boundTo? bound
  simp only [handleBadgePresented, hb, ha, active, h]
  exact if_pos here

theorem handleBadgePresented_of_own_drain {k : Nat} (hk : a.openVisit = some k) (own : draining w.toRecords k = true) :
    handleBadgePresented p code w = (w, ⟨.busy, [u16 i]⟩) := by
  obtain ⟨b, hb, rfl⟩ := binding_of_boundTo? bound
  simp only [handleBadgePresented, hb, ha, active, h, hk, Option.map_some, Option.getD_some, if_pos own]
  exact ite_self _

theorem handleBadgePresented_of_free (here : draining w.toRecords p = false)
    (own : ∀ k, a.openVisit = some k → draining w.toRecords k = false) :
    handleBadgePresented p code w = buildMenu p i (clearTheWay p i w) := by
  obtain ⟨b, hb, rfl⟩ := binding_of_boundTo? bound
  have owns : ¬ (a.openVisit.map (draining w.toRecords)).getD false = true := by
    cases hk : a.openVisit with
    | none => simp
    | some k => simp [own k hk]
  simp only [handleBadgePresented, hb, ha, active, h, if_neg owns]
  exact if_neg (by simp [here])

end

/-- What stands after the way was cleared: but for visits, what stood before. -/
structure Cleared (w w' : Work) (p i : Nat) (a : Account) : Prop where
  now : w'.now = w.now
  hq : w'.hq = w.hq
  idleTimeout : w'.rlu.idleTimeout = w.rlu.idleTimeout
  eligibleJobs : eligibleJobs w'.toRecords p i = eligibleJobs w.toRecords p i
  waitsForSupply : waitsForSupply w'.toRecords p = waitsForSupply w.toRecords p
  account : ∃ o, w'.adir.accounts.lookup i = some { a with openVisit := o }

theorem cleared_clearTheWay {w : Work} {p i : Nat} {a : Account} (ha : w.adir.accounts.lookup i = some a) :
    Cleared w (clearTheWay p i w) p i a := by
  obtain ⟨visits, accounts, raised, frame, same⟩ := clearTheWay_frame p i w
  obtain ⟨o, ho⟩ := same i
  rw [ha, Option.map_some] at ho
  rw [frame]
  exact ⟨rfl, rfl, rfl, eligibleJobs_sameButVisits same p i, waitsForSupply_sameButVisits same p, o, ho⟩

section
variable {w w' : Work} {p i : Nat} {a : Account} (cleared : Cleared w w' p i a)
include cleared

theorem buildMenu_of_some (some_ : eligibleJobs w.toRecords p i ≠ []) :
    buildMenu p i w' =
      ((w'.setVisit p (.opened
        { account := i, menu := (eligibleJobs w.toRecords p i).take 8, more := (eligibleJobs w.toRecords p i).length - 8
          cursor := 0, idle := armed w.now w.rlu.idleTimeout })).setAccount i { a with openVisit := some p }).ok
        [u16 i, s32 (a.balance - a.reserved + a.overdraft), flag a.warned,
          listField (menuEntry w.toRecords) ((eligibleJobs w.toRecords p i).take 8),
          u8 ((eligibleJobs w.toRecords p i).length - 8), u8 0, u32 (armed w.now w.rlu.idleTimeout).value] := by
  obtain ⟨now, hq, idleTimeout, found, -, o, ha⟩ := cleared
  have notEmpty : ¬ ((eligibleJobs w.toRecords p i).take 8).isEmpty = true := by simpa using some_
  have entries : menuEntry w'.toRecords = menuEntry w.toRecords := by
    funext n
    simp only [menuEntry, hq]
  simp only [buildMenu, builtVisit, found, now, idleTimeout, ha, entries, List.length_drop]
  exact if_neg notEmpty

theorem buildMenu_of_none (none_ : eligibleJobs w.toRecords p i = []) :
    buildMenu p i w' =
      (closeVisit p .taken w', ⟨.noJobs,
        [u16 i, u32 ((w.hq.lists.list i).filter (isHeld w.toRecords)).length,
          u32 ((w.hq.lists.list i).filter (waitsForSupply w.toRecords p)).length]⟩) := by
  obtain ⟨now, hq, idleTimeout, found, waits, -⟩ := cleared
  have held : isHeld w'.toRecords = isHeld w.toRecords := by
    funext n
    simp only [isHeld, hq]
  simp only [buildMenu, builtVisit, found, none_, jobList, hq, held, waits]
  rfl

end

/-! ### The visits in the way (R60) -/

section
variable {w : Work} {p i : Nat}

theorem closeElsewhere_of_none {a : Account} (ha : w.adir.accounts.lookup i = some a)
    (h : a.openVisit = none ∨ a.openVisit = some p) : closeElsewhere p i w = w := by
  obtain h | h := h <;> simp only [closeElsewhere, openVisit?_of_lookup ha, h, if_true]

theorem closeElsewhere_of_some {a : Account} {k : Nat} (ha : w.adir.accounts.lookup i = some a) (hk : a.openVisit = some k)
    (other : k ≠ p) : closeElsewhere p i w = closeVisit k .taken w := by
  simp only [closeElsewhere, openVisit?_of_lookup ha, hk, if_neg other]

theorem clearHere_of_none (h : w.rlu.visits.lookup p = none) : clearHere p i w = w := by
  simp only [clearHere, visitAccount?, h, Option.map_none]

theorem clearHere_of_own {v : Visit} (h : w.rlu.visits.lookup p = some v) (own : v.account = i) :
    clearHere p i w = w := by
  simp only [clearHere, visitAccount?, h, Option.map_some, if_pos own]

theorem clearHere_of_other {v : Visit} (h : w.rlu.visits.lookup p = some v) (other : v.account ≠ i) :
    clearHere p i w = closeVisit p .taken w := by
  simp only [clearHere, visitAccount?, h, Option.map_some, if_neg other]

/-- The closing of an OPEN visit, written out (R68). -/
theorem closeVisit_of_opened {v : OpenVisit} {a : Account} {reason : CloseReason}
    (hv : w.rlu.visits.lookup p = some (.opened v)) (ha : w.adir.accounts.lookup v.account = some a) :
    closeVisit p reason w =
      ((w.dropVisit p).setAccount v.account { a with openVisit := none }).raise .visitClosed p
        [u8 p, u16 v.account, u8 reason.code, .absent, .absent] := closeVisit_of_lookup hv ha

end

/-- Settles O36: the checks in their order, the menu by whether a job was found, and the way cleared by which visits stand. -/
theorem badgePresented : Obligations.BadgePresented := by
  refine ⟨?presented, fun w p i a ha => ?cleared⟩
  case presented =>
    intro s tag p code taken refused
    refine ⟨fun unbound => ?_, fun i a bound ha => ?_⟩
    · exact exec_refused taken rfl (handleBadgePresented_of_unbound (w := s.work) unbound)
    refine ⟨fun h => exec_replied taken rfl (handleBadgePresented_of_suspended (w := s.work) bound ha h),
      fun _ h => exec_replied taken rfl (handleBadgePresented_of_retiring (w := s.work) bound ha h), fun active => ?_⟩
    have printer {o : ReplyOutcome} {rest : List Field} (h : badgePrinterRefusal? s.toRecords p = some (o, rest)) :
        refused o (u16 i :: rest) :=
      exec_replied taken rfl (handleBadgePresented_of_printer (w := s.work) bound ha active h)
    refine ⟨fun outside => printer (if_pos outside), fun hp free => printer ?_, fun q hp hq => ⟨fun accepted retiring => printer ?_,
      fun away runs => printer ?_, fun service => ?_⟩⟩
    · simp only [badgePrinterRefusal?, if_neg (inPrinters hp), free]
    · simp only [badgePrinterRefusal?, if_neg (inPrinters hp), hq, retiring]
    · cases h : q.state with
      | inService => exact absurd h away
      | retiring accepted => exact absurd h (runs accepted)
      | _ => simp only [badgePrinterRefusal?, if_neg (inPrinters hp), hq, h]
    have passes : badgePrinterRefusal? s.work.toRecords p = none := by
      simp only [badgePrinterRefusal?, State.work_toRecords, if_neg (inPrinters hp), hq, service]
    refine ⟨fun here => exec_replied taken rfl (handleBadgePresented_of_drain_here (w := s.work) bound ha active passes here),
      fun k hk own => exec_replied taken rfl (handleBadgePresented_of_own_drain (w := s.work) bound ha active passes hk own),
      fun here own => ?_⟩
    have work := handleBadgePresented_of_free (w := s.work) bound ha active passes here own
    have cleared : Cleared s.work (clearTheWay p i s.work) p i a := cleared_clearTheWay (by exact ha)
    exact ⟨fun some_ => exec_ok taken rfl (work.trans (buildMenu_of_some cleared some_)),
      fun none_ => exec_worked taken rfl (work.trans (buildMenu_of_none cleared none_))⟩
  case cleared =>
    refine ⟨fun here none_ => ?_, fun v here own none_ => ?_, fun v b here other hb none_ => ?_,
      fun k u hk other hu own => ⟨fun here => ?_, fun v b here others hb => ?_⟩⟩
    · rw [clearTheWay_eq, closeElsewhere_of_none ha (.inl none_), clearHere_of_none here]
    · rw [clearTheWay_eq, closeElsewhere_of_none ha none_, clearHere_of_own here own]
    · rw [clearTheWay_eq, closeElsewhere_of_none ha (.inl none_), clearHere_of_other here other]
      exact closeVisit_of_opened here hb
    · subst own
      rw [clearTheWay_eq, closeElsewhere_of_some ha hk other, closeVisit_of_opened hu ha, clearHere_of_none]
      · rfl
      · exact (Table.lookup_remove ..).trans ((if_neg other.symm).trans here)
    · subst own
      rw [clearTheWay_eq, closeElsewhere_of_some ha hk other, closeVisit_of_opened hu ha,
        clearHere_of_other (v := .opened v) ((Table.lookup_remove ..).trans ((if_neg other.symm).trans here)) others]
      exact closeVisit_of_opened ((Table.lookup_remove ..).trans ((if_neg other.symm).trans here))
        ((Table.lookup_put ..).trans ((if_neg others).trans hb))

end Sys2Proof.Release
end

section
/-! PROOF. The terminal keys: the cursor (R65), SELECT with the grant it makes (R58, R62, R66, R67), SELECT_ALL, DELETE and
DONE (R68, R69, R71); and what a reservation, a grant and a warning write. -/

namespace Sys2Proof.Laws

open Sys2Proof.Machine Sys2Proof.Safety

variable {w : Work} {i p n : Nat}

/-! ### What the accounting operations write -/

theorem updateAccount_frame (i : Nat) (f : Account → Account) (w : Work) :
    ∃ accounts, w.updateAccount i f = { w with adir := { w.adir with accounts } }
      ∧ ∀ a, w.adir.accounts.lookup i = some a → accounts = w.adir.accounts.put i (f a) := by
  cases h : w.adir.accounts.lookup i with
  | none => exact ⟨w.adir.accounts, by simp only [Work.updateAccount, h], by simp⟩
  | some a =>
    refine ⟨w.adir.accounts.put i (f a), updateAccount_of_lookup h f, fun a' ha' => ?_⟩
    rw [Option.some.inj ha']

/-- The notice of an evaluated warning: none where the warn state stays (R27). -/
def warningRaised (i : Nat) (a : Account) : List Raised :=
  if warnStateAfter a = a.warned then []
  else [{ kind := .quotaWarning, key := i, body := [u16 i, flag (warnStateAfter a), s32 a.available, s32 a.balance] }]

/-- A warning is evaluated behind a write of its account (R27). -/
theorem evaluateWarning_of_put {t : Table Account} {a : Account} (h : w.adir.accounts = t.put i a) :
    evaluateWarning i w =
      { w with
        adir := { w.adir with accounts := t.put i { a with warned := warnStateAfter a } }
        raised := w.raised ++ warningRaised i a } := by
  have found : w.adir.accounts.lookup i = some a := by rw [h, Table.lookup_put_self]
  by_cases same : warnStateAfter a = a.warned
  · rw [evaluateWarning_of_unchanged found same, warningRaised, if_pos same, same, ← h, List.append_nil]
  · rw [evaluateWarning_of_changed found same, warningRaised, if_neg same, Work.setAccount, h, Table.put_put]
    rfl

theorem evaluateWarning_changes (i : Nat) (w : Work) :
    ∃ accounts raised, evaluateWarning i w = { w with adir := { w.adir with accounts }, raised } := by
  unfold evaluateWarning
  split
  · exact ⟨w.adir.accounts, w.raised, rfl⟩
  · split
    · exact ⟨w.adir.accounts, w.raised, rfl⟩
    · exact ⟨_, _, rfl⟩

theorem changeReserved_changes (i x y : Nat) (f : Nat → Nat → Nat) (w : Work) :
    ∃ accounts pools, changeReserved i x y f w = { w with adir := { w.adir with accounts, pools } }
      ∧ ∀ a, w.adir.accounts.lookup i = some a →
          accounts = w.adir.accounts.put i { a with reserved := f a.reserved x }
          ∧ (a.pool = none → pools = w.adir.pools)
          ∧ ∀ k c, a.pool = some k → w.adir.pools.lookup k = some c →
              pools = w.adir.pools.put k { c with reserved := f c.reserved y } := by
  cases ha : w.adir.accounts.lookup i with
  | none => exact ⟨w.adir.accounts, w.adir.pools, by simp only [changeReserved, ha], by simp⟩
  | some a =>
    cases hp : a.pool with
    | none =>
      refine ⟨_, _, changeReserved_of_no_pool ha hp x y f, fun a' ha' => ?_⟩
      obtain rfl := Option.some.inj ha'
      exact ⟨rfl, fun _ => rfl, fun k c hk => by rw [hp] at hk; cases hk⟩
    | some k =>
      cases hq : w.adir.pools.lookup k with
      | none =>
        refine ⟨w.adir.accounts.put i { a with reserved := f a.reserved x }, w.adir.pools, ?_, fun a' ha' => ?_⟩
        · simp only [changeReserved, ha, hp, Work.updatePool, Work.setAccount_pools, hq]
          rfl
        · obtain rfl := Option.some.inj ha'
          refine ⟨rfl, fun _ => rfl, fun k' c hk hc => ?_⟩
          rw [hp] at hk
          obtain rfl := Option.some.inj hk
          rw [hq] at hc
          cases hc
      | some c =>
        refine ⟨_, _, changeReserved_of_pool ha hp hq x y f, fun a' ha' => ?_⟩
        obtain rfl := Option.some.inj ha'
        refine ⟨rfl, fun no => absurd (hp.symm.trans no) (by simp), fun k' c' hk hc => ?_⟩
        rw [hp] at hk
        obtain rfl := Option.some.inj hk
        rw [hq] at hc
        obtain rfl := Option.some.inj hc
        rfl

/-- A change of the reserved points with the warning evaluated behind it, as a reservation and a refund are (R21, R23). -/
theorem evaluated_changeReserved (i x y : Nat) (f : Nat → Nat → Nat) (w : Work) :
    ∃ accounts pools raised,
      evaluateWarning i (changeReserved i x y f w) = { w with adir := { w.adir with accounts, pools }, raised }
      ∧ ∀ a, w.adir.accounts.lookup i = some a →
          let a' := { a with reserved := f a.reserved x }
          accounts = w.adir.accounts.put i { a' with warned := warnStateAfter a' }
          ∧ raised = w.raised ++ warningRaised i a'
          ∧ (a.pool = none → pools = w.adir.pools)
          ∧ ∀ k c, a.pool = some k → w.adir.pools.lookup k = some c →
              pools = w.adir.pools.put k { c with reserved := f c.reserved y } := by
  obtain ⟨accounts, pools, changed, parts⟩ := changeReserved_changes i x y f w
  cases ha : w.adir.accounts.lookup i with
  | none =>
    obtain ⟨accounts', raised, evaluated⟩ := evaluateWarning_changes i (changeReserved i x y f w)
    exact ⟨accounts', pools, raised, by rw [evaluated, changed], by simp⟩
  | some a =>
    obtain ⟨put, noPool, aPool⟩ := parts a ha
    refine ⟨w.adir.accounts.put i
        { a with reserved := f a.reserved x, warned := warnStateAfter { a with reserved := f a.reserved x } },
      pools, w.raised ++ warningRaised i { a with reserved := f a.reserved x }, ?_, fun a' ha' => ?_⟩
    · rw [changed, evaluateWarning_of_put put]
    · obtain rfl := Option.some.inj ha'
      exact ⟨rfl, rfl, noPool, aPool⟩

theorem warnStateAfter_eq (a : Account) :
    warnStateAfter a =
      if a.warned then decide (a.available < a.warnHigh ∨ a.available ≤ a.warnLow) else decide (a.available ≤ a.warnLow) := by
  unfold warnStateAfter
  split
  · rw [Bool.eq_iff_iff]
    simp only [Bool.not_eq_true', Bool.and_eq_false_iff, decide_eq_false_iff_not, decide_eq_true_eq, Int.not_le, Int.not_lt]
  · rfl

/-! ### What a grant writes (R67) -/

theorem grantJob_changes (p n : Nat) (j : Job) (x y : Nat) (w : Work) :
    ∃ accounts,
      grantJob p n j x y w =
        { w with
          adir := { w.adir with accounts }
          hq := { w.hq with
            jobs := w.hq.jobs.put n { j with stage := .releasing { printer := p, number := nextGrant w.rlu.lastGrant,
                                                                    accountPart := x, poolPart := y } } }
          rlu := { w.rlu with
            lastGrant := nextGrant w.rlu.lastGrant
            inFlight := w.rlu.inFlight.putList p
              (w.rlu.inFlight.list p ++ [{ job := n, window := arm w.now w.rlu.grantWindow }]) } }
      ∧ ∀ a, w.adir.accounts.lookup j.owner = some a →
          accounts = w.adir.accounts.put j.owner { a with inFlight := a.inFlight + 1 } := by
  unfold grantJob joinFlight
  obtain ⟨accounts, changed, put⟩ := updateAccount_frame j.owner (fun a => { a with inFlight := a.inFlight + 1 })
    ((({ w with rlu := { w.rlu with lastGrant := nextGrant w.rlu.lastGrant } } : Work).setJob n
      { j with stage := .releasing { printer := p, number := nextGrant w.rlu.lastGrant, accountPart := x, poolPart := y } }).setInFlight
      p (w.rlu.inFlight.list p ++ [{ job := n, window := arm w.now w.rlu.grantWindow }]))
  exact ⟨accounts, changed, put⟩

/-- A grant with its reservation, written out for the owner's account and the pool it names (R21, R27, R67). -/
theorem grantJob_reserve (p n : Nat) (j : Job) (x y : Nat) (w : Work) :
    ∃ accounts pools raised,
      grantJob p n j x y (reserve j.owner x y w) =
        { w with
          adir := { w.adir with accounts, pools }
          hq := { w.hq with
            jobs := w.hq.jobs.put n { j with stage := .releasing { printer := p, number := nextGrant w.rlu.lastGrant,
                                                                    accountPart := x, poolPart := y } } }
          rlu := { w.rlu with
            lastGrant := nextGrant w.rlu.lastGrant
            inFlight := w.rlu.inFlight.putList p
              (w.rlu.inFlight.list p ++ [{ job := n, window := arm w.now w.rlu.grantWindow }]) }
          raised }
      ∧ ∀ a, w.adir.accounts.lookup j.owner = some a →
          let a' := { a with reserved := a.reserved + x }
          accounts = w.adir.accounts.put j.owner { a' with warned := warnStateAfter a', inFlight := a.inFlight + 1 }
          ∧ raised = w.raised ++ warningRaised j.owner a'
          ∧ (a.pool = none → pools = w.adir.pools)
          ∧ ∀ k c, a.pool = some k → w.adir.pools.lookup k = some c →
              pools = w.adir.pools.put k { c with reserved := c.reserved + y } := by
  obtain ⟨accounts, pools, raised, reserved, parts⟩ := evaluated_changeReserved j.owner x y (· + ·) w
  obtain ⟨accounts', granted, put⟩ := grantJob_changes p n j x y (reserve j.owner x y w)
  rw [show reserve j.owner x y w = _ from reserved] at granted put ⊢
  refine ⟨accounts', pools, raised, granted, fun a ha => ?_⟩
  obtain ⟨written, notices, pool⟩ := parts a ha
  refine ⟨?_, notices, pool⟩
  rw [put _ (by rw [written]; exact Table.lookup_put_self _ _ _), written]
  exact Table.put_put ..

end Sys2Proof.Laws

namespace Sys2Proof.Release

open Sys2Proof.Machine Sys2Proof.Safety Sys2Proof.Laws Sys2Proof.People Sys2Proof.Hold

/-! ### A key at a visit (R64, R65) -/

section
variable {w : Work} {p : Nat} {q : Printer} {f : OpenVisit → Work × Answer} (hp : p < 96)
  (hq : w.ptb.printers.lookup p = some q)
include hp hq

theorem onVisit_of_opened {v : OpenVisit} (hv : w.rlu.visits.lookup p = some (.opened v)) : onVisit p f w = f v := by
  simp only [onVisit, if_neg (inPrinters hp), hq, hv]

theorem onVisit_of_idle (hv : w.rlu.visits.lookup p = none) : onVisit p f w = w.refuse .state := by
  simp only [onVisit, if_neg (inPrinters hp), hq, hv]

theorem onVisit_of_draining {d : DrainVisit} (hv : w.rlu.visits.lookup p = some (.draining d)) :
    onVisit p f w = w.refuse .busy := by
  simp only [onVisit, if_neg (inPrinters hp), hq, hv]

end

theorem refreshIdle_setVisit (w : Work) (p : Nat) (v : OpenVisit) :
    refreshIdle p (w.setVisit p (.opened v)) = w.setVisit p (.opened { v with idle := armed w.now w.rlu.idleTimeout }) := by
  simp only [refreshIdle, Work.setVisit_visits, Table.lookup_put_self]
  rw [Work.setVisit, Work.setVisit_visits, Table.put_put]
  rfl

/-- The reply to a cursor key (R64, R65). -/
theorem keyReply_setVisit (w : Work) (p : Nat) (v : OpenVisit) :
    keyReply p .ok [] (w.setVisit p (.opened v)) =
      (w.setVisit p (.opened { v with idle := armed w.now w.rlu.idleTimeout })).ok
        [u8 1, listField (fun n => [u16 n]) v.menu, u8 v.cursor, u8 v.more, u32 (armed w.now w.rlu.idleTimeout).value] := by
  simp only [keyReply, refreshIdle_setVisit, visitFields, Work.setVisit_visits, Table.lookup_put_self]
  rfl

/-- Settles O37. -/
theorem cursorMoved : Obligations.CursorMoved := by
  intro s tag p q hp hq moved
  refine ⟨fun taken => ⟨fun v hv => ?next, fun hv => ?_, fun d hv => ?_⟩,
    fun taken => ⟨fun v hv => ?previous, fun hv => ?_, fun d hv => ?_⟩⟩
  case next =>
    have work : handleNext p s.work = _ := (onVisit_of_opened hp hq hv).trans (keyReply_setVisit s.work p _)
    have move {cursor : Nat} (h : nextCursor v = cursor) : exec (.next tag p) s = .next (moved v cursor) :=
      h ▸ exec_ok taken rfl work
    exact ⟨fun inside => move (if_pos inside), fun last => move (if_neg (Nat.not_lt.mpr last))⟩
  case previous =>
    have work : handlePrevious p s.work = _ := (onVisit_of_opened hp hq hv).trans (keyReply_setVisit s.work p _)
    have move {cursor : Nat} (h : previousCursor v = cursor) : exec (.previous tag p) s = .next (moved v cursor) :=
      h ▸ exec_ok taken rfl work
    exact ⟨fun first => move (if_pos first), fun inside => move (if_neg inside)⟩
  · exact exec_refused taken rfl (show handleNext p s.work = _ from onVisit_of_idle hp hq hv)
  · exact exec_refused taken rfl (show handleNext p s.work = _ from onVisit_of_draining hp hq hv)
  · exact exec_refused taken rfl (show handlePrevious p s.work = _ from onVisit_of_idle hp hq hv)
  · exact exec_refused taken rfl (show handlePrevious p s.work = _ from onVisit_of_draining hp hq hv)

/-! ### Eligibility, and the menu after an entry has left it (R58, R62) -/

theorem targetFits_iff (j : Job) (p floor : Nat) :
    targetFits j p floor = true ↔
      j.target = .any ∨ j.target = .floor floor ∨ j.target = .printer p ∨ j.reroutedFrom = some p := by
  simp only [targetFits, Bool.or_eq_true, decide_eq_true_eq, or_assoc]

theorem ownerColour_iff (r : Records) (i : Nat) :
    ownerColour r i = true ↔ ∃ a, r.adir.accounts.lookup i = some a ∧ a.colour = true := by
  unfold ownerColour
  split
  · rename_i h; simp [h]
  · rename_i a h; simp [h]

theorem slotUsable_iff (r : Records) (p : Nat) (l : SlotLetter) :
    slotUsable r p l = true ↔ ∃ c, r.spu.slots.lookup (slotKey p l) = some c ∧ c.state ≠ .empty := by
  unfold slotUsable
  split
  · rename_i h; simp [h]
  · rename_i c h; simp [h]

theorem supplyFits_iff (r : Records) (p : Nat) (j : Job) :
    supplyFits r p j = true ↔
      slotUsable r p .k = true
        ∧ (0 < j.colour → slotUsable r p .c = true ∧ slotUsable r p .m = true ∧ slotUsable r p .y = true) := by
  simp only [supplyFits, Bool.and_eq_true, Bool.or_eq_true, beq_iff_eq, Nat.pos_iff_ne_zero, and_assoc]
  tauto

section
variable {r : Records} {p : Nat} {q : Printer} {j : Job} (hq : r.ptb.printers.lookup p = some q)
include hq

/-- The tests of R58 in their order, as conditions. -/
theorem failure?_eq :
    failure? r p j =
      if j.stage ≠ .held then some .state
      else if ¬ (j.target = .any ∨ j.target = .floor q.floor ∨ j.target = .printer p ∨ j.reroutedFrom = some p) then
        some .capability
      else if ¬ (0 < j.colour → q.colourCapable = true) then some .capability
      else if ¬ (0 < j.colour → ∃ a, r.adir.accounts.lookup j.owner = some a ∧ a.colour = true) then some .notPermitted
      else if ¬ (j.size = .large → q.largeTray = true) then some .capability
      else if ¬ (j.duplex = true → q.duplex = true) then some .capability
      else if ¬ supplyFits r p j = true then some .supply
      else none := by
  simp only [failure?, hq, ← targetFits_iff, ← ownerColour_iff, Bool.not_eq_true', Bool.and_eq_true, decide_eq_true_eq,
    Classical.not_imp, Bool.not_eq_true]

end

section
variable (r : Records) (p n : Nat) (v : OpenVisit)

theorem find?_eq_head? {α : Type} (f : α → Bool) (l : List α) : l.find? f = (l.filter f).head? := by
  rw [List.head?_filter]

/-- An entry leaves a menu that nothing waits for (R62). -/
theorem leaveMenu_of_none (h : (eligibleJobs r p v.account).filter (fun m => !(v.menu.erase n).contains m) = []) :
    leaveMenu r p n v =
      { v with menu := v.menu.erase n, cursor := min v.cursor ((v.menu.erase n).length - 1), more := 0 } := by
  have none_ : (eligibleJobs r p v.account).find? (fun m => !(v.menu.erase n).contains m) = none := by
    rw [find?_eq_head?, h]
    rfl
  simp only [leaveMenu, refillMenu, takeFromMenu, none_, countMore, h]
  rfl

/-- An entry leaves a menu, and the first job that waits takes a place in it (R62). -/
theorem leaveMenu_of_some {m : Nat} {rest : List Nat}
    (h : (eligibleJobs r p v.account).filter (fun k => !(v.menu.erase n).contains k) = m :: rest) :
    leaveMenu r p n v =
      let left := v.menu.erase n
      let cursor := min v.cursor (left.length - 1)
      let menu := (r.hq.lists.list v.account).filter (fun k => k == m || left.contains k)
      { v with
        menu
        cursor := if menu.idxOf m ≤ cursor ∧ left ≠ [] then cursor + 1 else cursor
        more := ((eligibleJobs r p v.account).filter (fun k => !menu.contains k)).length } := by
  have found : (eligibleJobs r p v.account).find? (fun k => !(v.menu.erase n).contains k) = some m := by
    rw [find?_eq_head?, h]
    rfl
  simp only [leaveMenu, refillMenu, takeFromMenu, found]
  rfl

end

/-! ### SELECT (R66, R67) -/

theorem keyReply_nil (p : Nat) (o : ReplyOutcome) (w : Work) :
    keyReply p o [] w = (refreshIdle p w, ⟨o, visitFields (refreshIdle p w).toRecords p⟩) := by
  rw [keyReply, List.append_nil]
  rfl

theorem inService_eq {r : Records} {p : Nat} {q : Printer} (hq : r.ptb.printers.lookup p = some q) :
    inService r p = decide (q.state = .inService) := by
  simp only [inService, hq]

section
variable {w : Work} {p n : Nat} {q : Printer} {v : OpenVisit} {j : Job}

theorem selectJob_of_failure {failure : Failure} (h : failure? w.toRecords p j = some failure) :
    selectJob p n j v w = keyReply p failure.outcome [] (w.setVisit p (.opened (leaveMenu w.toRecords p n v))) := by
  simp only [selectJob, h]

variable (hq : w.ptb.printers.lookup p = some q) (fits : failure? w.toRecords p j = none)
include hq fits

theorem selectJob_of_service (away : q.state ≠ .inService) : selectJob p n j v w = keyReply p .service [] w := by
  simp only [selectJob, fits, inService_eq hq]
  exact if_pos (by simpa using away)

variable (serves : q.state = .inService)
include serves

theorem selectJob_of_busy (full : 4 ≤ (inFlightList w.toRecords p).length) : selectJob p n j v w = keyReply p .busy [] w := by
  simp only [selectJob, fits, inService_eq hq]
  rw [if_neg (by simpa using serves)]
  exact if_pos full

variable (room : (inFlightList w.toRecords p).length < 4)
include room

theorem selectJob_of_short {charge : Nat} {missing : Int} (short : askReservation w.toRecords j = .short charge missing) :
    selectJob p n j v w = keyReply p .quota [u32 charge, s32 missing] w := by
  simp only [selectJob, fits, inService_eq hq, short]
  rw [if_neg (by simpa using serves)]
  exact if_neg (Nat.not_le.mpr room)

theorem selectJob_of_parts {x y : Nat} (parts : askReservation w.toRecords j = .parts x y) :
    selectJob p n j v w =
      keyReply p .ok (grantFields (grantSelected p n j x y v w).toRecords p n x y) (grantSelected p n j x y v w) := by
  simp only [selectJob, fits, inService_eq hq, parts]
  rw [if_neg (by simpa using serves)]
  exact if_neg (Nat.not_le.mpr room)

end

section
variable {w : Work} {p n : Nat} {q : Printer} {v : OpenVisit} (hp : p < 96) (hq : w.ptb.printers.lookup p = some q)
  (hv : w.rlu.visits.lookup p = some (.opened v))
include hp hq hv

theorem handleSelect_of_empty (h : v.menu = []) : handleSelect p w = keyReply p .noJobs [] w := by
  have nothing : v.menu[v.cursor]? = none := by rw [h]; rfl
  refine (onVisit_of_opened hp hq hv).trans ?_
  simp only [nothing]

theorem handleSelect_of_job {j : Job} (hn : v.menu[v.cursor]? = some n) (hj : w.hq.jobs.lookup n = some j) :
    handleSelect p w = selectJob p n j v w := by
  refine (onVisit_of_opened hp hq hv).trans ?_
  simp only [hn, hj]

end

/-- SELECT's grant with the menu it leaves, written out (R62, R67). -/
theorem grantSelected_changes (p n : Nat) (j : Job) (x y : Nat) (v : OpenVisit) (w : Work) :
    ∃ accounts pools raised menu,
      grantSelected p n j x y v w =
        { w with
          adir := { w.adir with accounts, pools }
          hq := { w.hq with
            jobs := w.hq.jobs.put n { j with stage := .releasing { printer := p, number := nextGrant w.rlu.lastGrant,
                                                                    accountPart := x, poolPart := y } } }
          rlu := { w.rlu with
            lastGrant := nextGrant w.rlu.lastGrant
            inFlight := w.rlu.inFlight.putList p
              (w.rlu.inFlight.list p ++ [{ job := n, window := arm w.now w.rlu.grantWindow }])
            visits := w.rlu.visits.put p (.opened menu) }
          raised }
      ∧ menu = leaveMenu (grantSelected p n j x y v w).toRecords p n v
      ∧ ∀ a, w.adir.accounts.lookup j.owner = some a →
          let a' := { a with reserved := a.reserved + x }
          accounts = w.adir.accounts.put j.owner { a' with warned := warnStateAfter a', inFlight := a.inFlight + 1 }
          ∧ raised = w.raised ++ warningRaised j.owner a'
          ∧ (a.pool = none → pools = w.adir.pools)
          ∧ ∀ k c, a.pool = some k → w.adir.pools.lookup k = some c →
              pools = w.adir.pools.put k { c with reserved := c.reserved + y } := by
  obtain ⟨accounts, pools, raised, granted, owner⟩ := grantJob_reserve p n j x y w
  refine ⟨accounts, pools, raised, leaveMenu (grantSelected p n j x y v w).toRecords p n v, ?_, rfl, owner⟩
  unfold grantSelected
  rw [granted]
  rfl

/-- The window of a job that joined a list in which it was not. -/
theorem window?_of_joined {r : Records} {p n : Nat} {window : Deadline} {before : List InFlight}
    (h : inFlightList r p = before ++ [{ job := n, window }]) (new : ∀ e ∈ before, e.job ≠ n) :
    window? r p n = some window := by
  have none_ : before.find? (fun e => e.job == n) = none := List.find?_eq_none.mpr (by simpa using new)
  rw [window?, h, List.find?_append, none_, List.find?_cons_of_pos (by simp)]
  rfl

/-- The class of a job at a printer, by the tests of R58. -/
theorem failure?_classes {r : Records} {p : Nat} {q : Printer} {j : Job} (hq : r.ptb.printers.lookup p = some q) :
    let fits := j.target = .any ∨ j.target = .floor q.floor ∨ j.target = .printer p ∨ j.reroutedFrom = some p
    let permitted := ∃ a, r.adir.accounts.lookup j.owner = some a ∧ a.colour = true
    let printed := 0 < j.colour → q.colourCapable = true
    let handled := (j.size = .large → q.largeTray = true) ∧ (j.duplex = true → q.duplex = true)
    (j.stage ≠ .held → failure? r p j = some .state)
    ∧ (j.stage = .held →
        (¬(fits ∧ printed) → failure? r p j = some .capability)
        ∧ (fits → printed → 0 < j.colour → ¬permitted → failure? r p j = some .notPermitted)
        ∧ (fits → printed → (0 < j.colour → permitted) →
            (¬handled → failure? r p j = some .capability)
            ∧ (handled → ¬supplyFits r p j = true → failure? r p j = some .supply)
            ∧ (handled → supplyFits r p j = true → failure? r p j = none))) := by
  intro fits permitted printed handled
  have tests := failure?_eq (j := j) hq
  refine ⟨fun h => tests.trans (if_pos h), fun held => ?_⟩
  rw [if_neg (not_not.mpr held)] at tests
  refine ⟨fun h => ?_, fun hf hp hc hn => ?_, fun hf hp hn => ?_⟩
  · by_cases hf : fits
    · rw [if_neg (not_not.mpr hf), if_pos (fun hp => h ⟨hf, hp⟩)] at tests
      exact tests
    · exact tests.trans (if_pos hf)
  · rw [if_neg (not_not.mpr hf), if_neg (not_not.mpr hp), if_pos (fun all => hn (all hc))] at tests
    exact tests
  · rw [if_neg (not_not.mpr hf), if_neg (not_not.mpr hp), if_neg (not_not.mpr hn)] at tests
    refine ⟨fun h => ?_, fun ⟨large, duplex⟩ hs => ?_, fun ⟨large, duplex⟩ hs => ?_⟩
    · by_cases large : j.size = .large → q.largeTray = true
      · rw [if_neg (not_not.mpr large), if_pos (fun duplex => h ⟨large, duplex⟩)] at tests
        exact tests
      · exact tests.trans (if_pos large)
    · rw [if_neg (not_not.mpr large), if_neg (not_not.mpr duplex), if_pos hs] at tests
      exact tests
    · rw [if_neg (not_not.mpr large), if_neg (not_not.mpr duplex), if_neg (not_not.mpr hs)] at tests
      exact tests

/-- Settles O38: SELECT by the first check that fails, what a grant writes, the menu's refill, and the classes of R58. -/
theorem selected : Obligations.Selected := by
  refine ⟨?select, fun r p n v => ?refill, fun r p q j hq => ?classes⟩
  case select =>
    intro s tag p q v taken hp hq hv stays number
    have empty (h : v.menu = []) := exec_worked taken rfl ((handleSelect_of_empty (w := s.work) hp hq hv h).trans (keyReply_nil ..))
    refine ⟨empty, fun n j hn hj => ?_⟩
    have atCursor : handleSelect p s.work = selectJob p n j v s.work := handleSelect_of_job hp hq hv hn hj
    refine ⟨?failed, fun fits away => ?_, fun fits serves full => ?_, fun fits serves room => ⟨fun charge missing short => ?_, ?_⟩⟩
    case failed =>
      intro failure failed w
      exact exec_worked taken rfl ((atCursor.trans (selectJob_of_failure failed)).trans (keyReply_nil ..))
    · exact exec_worked taken rfl ((atCursor.trans (selectJob_of_service (w := s.work) hq fits away)).trans (keyReply_nil ..))
    · exact exec_worked taken rfl ((atCursor.trans (selectJob_of_busy (w := s.work) hq fits serves full)).trans (keyReply_nil ..))
    · exact exec_worked taken rfl (atCursor.trans (selectJob_of_short (w := s.work) hq fits serves room short))
    intro x y parts w window
    obtain ⟨accounts, pools, raised, menu, granted, left, owner⟩ := grantSelected_changes p n j x y v s.work
    have written : w = _ := granted
    have flight : inFlightList w.toRecords p = inFlightList s.toRecords p ++ [{ job := n, window }] := by
      rw [written]
      exact (Table.list_putList ..).trans (if_pos rfl)
    have last : w.rlu.lastGrant = number := by rw [written]; rfl
    have reply := atCursor.trans (selectJob_of_parts (w := s.work) hq fits serves room parts)
    refine ⟨?_, by rw [written]; rfl, flight, by rw [flight, List.length_append]; rfl, last, fun k => ?_, fun k other => ?_,
      by rw [written]; rfl, by rw [written]; rfl, by rw [written]; rfl, by rw [written]; rfl, by rw [written]; rfl, fun a ha => ?_,
      window?_of_joined flight⟩
    · rw [← last]
      exact exec_worked taken rfl reply
    · rw [show leaveMenu w.toRecords p n v = menu from left.symm, written]
      exact Table.lookup_put ..
    · rw [written]
      exact (Table.list_putList ..).trans (if_neg other)
    · intro available warned
      obtain ⟨put, notices, pool⟩ := owner a ha
      have state : warnStateAfter { a with reserved := a.reserved + x } = warned := warnStateAfter_eq _
      rw [warningRaised, state] at notices
      rw [state] at put
      rw [written]
      exact ⟨put, notices, pool⟩
  case refill =>
    intro left cursor waiting
    exact ⟨leaveMenu_of_none r p n v, fun m rest h => leaveMenu_of_some r p n v h⟩
  case classes =>
    intro fits permitted usable stocked printed handled
    have supply : supplyFits r p j = true ↔ stocked := by
      simp only [supplyFits_iff, slotUsable_iff]
      rfl
    obtain ⟨state, held⟩ := failure?_classes (j := j) hq
    refine ⟨state, fun h => ?_⟩
    obtain ⟨capability, notPermitted, allowed⟩ := held h
    refine ⟨capability, notPermitted, fun hf hp hn => ?_⟩
    obtain ⟨unhandled, empty, all⟩ := allowed hf hp hn
    exact ⟨unhandled, fun hh hs => empty hh (mt supply.mp hs), fun hh hs => all hh (supply.mpr hs)⟩

/-! ### SELECT_ALL, DELETE and DONE (R65, R68, R69, R71) -/

theorem closeVisit_visits (p : Nat) (reason : CloseReason) (w : Work) :
    (closeVisit p reason w).rlu.visits.lookup p = none := by
  unfold closeVisit
  split
  · assumption
  · rename_i v hv
    obtain ⟨accounts, changed, -⟩ := updateAccount_frame v.account (fun a => { a with openVisit := none }) (w.dropVisit p)
    rw [changed]
    exact (Table.lookup_remove ..).trans (if_pos rfl)

section
variable {w : Work} {p : Nat} {q : Printer} {v : OpenVisit} (hp : p < 96) (hq : w.ptb.printers.lookup p = some q)
include hp hq

section
variable (hv : w.rlu.visits.lookup p = some (.opened v))
include hv

theorem handleSelectAll_of_service (away : q.state ≠ .inService) : handleSelectAll p w = keyReply p .service [] w := by
  refine (onVisit_of_opened hp hq hv).trans ?_
  simp only [inService_eq hq]
  exact if_pos (by simpa using away)

variable (serves : q.state = .inService)
include serves

theorem handleSelectAll_of_none (none_ : (eligibleJobs w.toRecords p v.account).take 32 = []) :
    handleSelectAll p w = keyReply p .noJobs [] w := by
  refine (onVisit_of_opened hp hq hv).trans ?_
  simp only [inService_eq hq]
  rw [if_neg (by simpa using serves)]
  exact if_pos (List.isEmpty_iff.mpr none_)

/-- SELECT_ALL begins a drain: the visit is no longer OPEN, so its reply carries no fields of it (R64, R69). -/
theorem handleSelectAll_of_some (some_ : (eligibleJobs w.toRecords p v.account).take 32 ≠ []) :
    handleSelectAll p w =
      (w.setVisit p (.draining
        { account := v.account, jobs := (eligibleJobs w.toRecords p v.account).take 32, granted := 0, dropped := 0 })).ok
        [u8 2, .absent, .absent, .absent, .absent,
          listField (fun n => [u16 n]) ((eligibleJobs w.toRecords p v.account).take 32)] := by
  refine (onVisit_of_opened hp hq hv).trans ?_
  simp only [inService_eq hq]
  rw [if_neg (by simpa using serves)]
  refine (if_neg (mt List.isEmpty_iff.mp some_)).trans ?_
  simp only [keyReply, refreshIdle, Work.setVisit_visits, Table.lookup_put_self, visitFields]
  rfl

end

theorem handleDelete_of_empty (hv : w.rlu.visits.lookup p = some (.opened v)) (h : v.menu = []) :
    handleDelete p w = keyReply p .noJobs [] w := by
  have nothing : v.menu[v.cursor]? = none := by rw [h]; rfl
  refine (onVisit_of_opened hp hq hv).trans ?_
  simp only [nothing]

theorem handleDelete_of_held {n : Nat} {j : Job} (hv : w.rlu.visits.lookup p = some (.opened v))
    (hn : v.menu[v.cursor]? = some n) (hj : w.hq.jobs.lookup n = some j) (own : j.owner = v.account) (held : j.stage = .held)
    (low : 1 ≤ n) (high : n ≤ 65535) (hi : v.account < 4096) :
    handleDelete p w = keyReply p .ok [u16 n] (removeJob n .cancelled 0 w) := by
  refine (onVisit_of_opened hp hq hv).trans ?_
  simp only [hn, cancelJob_of_held w low high hi hj own held]
  rfl

theorem handleDone_of_draining {d : DrainVisit} (hv : w.rlu.visits.lookup p = some (.draining d)) :
    handleDone p w = (closeVisit p .done w).ok [u8 d.granted, u8 d.dropped] := by
  simp only [handleDone, if_neg (inPrinters hp), hq, hv]

theorem handleDone_of_opened (hv : w.rlu.visits.lookup p = some (.opened v)) :
    handleDone p w = (closeVisit p .done w).ok [u8 0, .absent, .absent, .absent, .absent] := by
  have gone := closeVisit_visits p .done w
  simp only [handleDone, if_neg (inPrinters hp), hq, hv, keyReply, refreshIdle, gone, visitFields]
  rfl

end

/-- Settles O39. -/
theorem selectAllDeleteDone : Obligations.SelectAllDeleteDone := by
  intro s tag p q hp hq
  refine ⟨?selectAll, fun v taken hv => ⟨fun none_ => ?_, ?delete⟩, fun taken => ⟨fun v hv => ?_, fun d hv => ?_⟩⟩
  case selectAll =>
    intro v taken hv snapshot stays
    refine ⟨fun serves some_ => ?_, fun serves none_ => ?_, fun away => ?_⟩
    · exact exec_ok taken rfl (handleSelectAll_of_some (w := s.work) hp hq hv serves some_)
    · exact exec_worked taken rfl ((handleSelectAll_of_none (w := s.work) hp hq hv serves none_).trans (keyReply_nil ..))
    · exact exec_worked taken rfl ((handleSelectAll_of_service (w := s.work) hp hq hv away).trans (keyReply_nil ..))
  case delete =>
    intro n j hn hj own held low high hi w
    exact exec_worked taken rfl (handleDelete_of_held (w := s.work) hp hq hv hn hj own held low high hi)
  · exact exec_worked taken rfl ((handleDelete_of_empty (w := s.work) hp hq hv none_).trans (keyReply_nil ..))
  · exact exec_ok taken rfl (handleDone_of_opened (w := s.work) hp hq hv)
  · exact exec_ok taken rfl (handleDone_of_draining (w := s.work) hp hq hv)

end Sys2Proof.Release
end

section
/-! PROOF. Drain grants (R70, R71), the reports of the spool (R73 to R75), releases that end without a print (R47, R75, R78),
and settlements (R24, R25, R76, R77). -/

namespace Sys2Proof.Release

open Sys2Proof.Machine Sys2Proof.Safety Sys2Proof.Laws Sys2Proof.People Sys2Proof.Hold

/-! ### Drain grants (R70, R71) -/

theorem exec_drainGrant_of_no_room {s : State} {p : Nat} (h : s.lnk.notices.length = 64 ∨ s.lnk.owed ≠ []) :
    exec (.drainGrant p) s = .next s := by
  have noRoom : s.lnk.grantRoom = false := by
    obtain full | owed := h
    · simp [Lnk.grantRoom, full, Config.noticeQueue]
    · simp [Lnk.grantRoom, owed]
  simp [exec, execDrainGrant, noRoom]

theorem exec_drainGrant_of_room {s : State} {p : Nat} {w : Work} (power : s.lnk.mainPower = true)
    (room : s.lnk.notices.length < 64) (owed : s.lnk.owed = []) (hw : drainGrants p s.work = w) :
    exec (.drainGrant p) s = .next (passed s w) := by
  have grantRoom : s.lnk.grantRoom = true := by simp [Lnk.grantRoom, room, owed, Config.noticeQueue]
  subst hw
  simp [exec, execDrainGrant, grantRoom, takeEvent_of_power power]

section
variable {w : Work} {p n : Nat} {rest : List Nat} {d : DrainVisit} {q : Printer}
  (hd : w.rlu.visits.lookup p = some (.draining d)) (jobs : d.jobs = n :: rest) (hq : w.ptb.printers.lookup p = some q)
include hd jobs hq

theorem drainGrants_of_waiting (h : q.state ≠ .inService ∨ 4 ≤ (inFlightList w.toRecords p).length) :
    drainGrants p w = w := by
  simp only [drainGrants, hd, jobs, inService_eq hq]
  refine if_neg fun ⟨serves, free⟩ => ?_
  exact h.elim (· (of_decide_eq_true serves)) (Nat.not_le.mpr free)

theorem drainGrants_of_serving (serves : q.state = .inService) (room : (inFlightList w.toRecords p).length < 4) :
    drainGrants p w = drainHead p n rest d w := by
  simp only [drainGrants, hd, jobs, inService_eq hq]
  exact if_pos ⟨by rw [decide_eq_true_eq]; exact serves, room⟩

end

section
variable {w : Work} {p n : Nat} {rest : List Nat} {d : DrainVisit}

theorem drainHead_of_gone (h : w.hq.jobs.lookup n = none) :
    drainHead p n rest d w = leaveDrain p { d with jobs := rest, dropped := d.dropped + 1 } w := by
  simp only [drainHead, h]

variable {j : Job} (hj : w.hq.jobs.lookup n = some j)
include hj

theorem drainHead_of_failure (h : failure? w.toRecords p j ≠ none) :
    drainHead p n rest d w = leaveDrain p { d with jobs := rest, dropped := d.dropped + 1 } w := by
  simp only [drainHead, hj]
  exact if_pos h

variable (fits : failure? w.toRecords p j = none)
include fits

theorem drainHead_of_short {charge : Nat} {missing : Int} (short : askReservation w.toRecords j = .short charge missing) :
    drainHead p n rest d w = leaveDrain p { d with jobs := rest, dropped := d.dropped + 1 } w := by
  simp only [drainHead, hj, short]
  exact if_neg (not_not.mpr fits)

theorem drainHead_of_parts {x y : Nat} (parts : askReservation w.toRecords j = .parts x y) :
    drainHead p n rest d w =
      leaveDrain p { d with jobs := rest, granted := d.granted + 1 }
        (raiseGrant p n j x y (grantJob p n j x y (reserve j.owner x y w))) := by
  simp only [drainHead, hj, parts]
  exact if_neg (not_not.mpr fits)

end

/-- The end of a drain, written out (R71). -/
theorem leaveDrain_of_nil {w : Work} {p : Nat} {d : DrainVisit} {a : Account} (h : d.jobs = [])
    (ha : w.adir.accounts.lookup d.account = some a) :
    leaveDrain p d w =
      { w with
        rlu := { w.rlu with visits := (w.rlu.visits.put p (.draining d)).remove p }
        adir := { w.adir with accounts := w.adir.accounts.put d.account { a with openVisit := none } }
        raised := w.raised ++
          [{ kind := .visitClosed, key := p, body := [u8 p, u16 d.account, u8 3, u8 d.granted, u8 d.dropped] }] } := by
  have closed : leaveDrain p d w = closeVisit p .drained (w.setVisit p (.draining d)) := if_pos (by rw [h]; rfl)
  rw [closed, closeVisit_of_lookup (v := .draining d) (Table.lookup_put_self ..) (by exact ha)]
  rfl

/-- Settles O40. -/
theorem drainGranted : Obligations.DrainGranted := by
  intro s p n rest d q power hd jobs hq
  refine ⟨exec_drainGrant_of_no_room, fun room owed => ⟨fun waits => ?_, ?head⟩, ?left, ?grant⟩
  · exact exec_drainGrant_of_room power room owed (drainGrants_of_waiting (w := s.work) hd jobs hq waits)
  case head =>
    intro serves free dropped
    have grants {w : Work} (h : drainHead p n rest d s.work = w) : exec (.drainGrant p) s = .next (passed s w) :=
      exec_drainGrant_of_room power room owed ((drainGrants_of_serving (w := s.work) hd jobs hq serves free).trans h)
    refine ⟨fun gone => grants (drainHead_of_gone gone), fun j hj => ⟨fun fails => grants (drainHead_of_failure hj fails),
      fun charge missing fits short => grants (drainHead_of_short hj fits short), ?_⟩⟩
    intro x y fits parts w
    exact grants (drainHead_of_parts hj fits parts)
  case left =>
    intro w jobs granted dropped left
    refine ⟨fun more => if_neg (by simpa [left] using more), fun a none_ ha => ?_⟩
    refine ⟨(w.rlu.visits.put p (.draining left)).remove p, fun k => ?_, leaveDrain_of_nil none_ ha⟩
    rw [Table.lookup_remove, Table.lookup_put]
    split
    · rfl
    · rfl
  case grant =>
    intro w j a x y ha number
    obtain ⟨accounts, granted, put⟩ := grantJob_changes p n j x y w
    refine ⟨w.rlu.inFlight.putList p
      (w.rlu.inFlight.list p ++ [{ job := n, window := arm w.now w.rlu.grantWindow }]), fun k => ?_, ?_⟩
    · rw [Table.list_putList]
      split
      · subst k
        rfl
      · rfl
    · rw [granted, put a ha]
      rfl

/-! ### Reports of the spool (R73, R74) -/

section
variable {w : Work} {n number : Nat} {f : Job → Grant → Work × Answer}

theorem onGrant_of_out_of_range (h : n = 0 ∨ 65535 < n ∨ number = 0) : onGrant n number f w = w.refuse .range := if_pos h

variable (low : 1 ≤ n) (high : n ≤ 65535) (issued : number ≠ 0)
include low high issued

theorem onGrant_of_none (h : w.hq.jobs.lookup n = none) : onGrant n number f w = w.refuse .noRecord := by
  have inside : ¬ (n = 0 ∨ Config.maxJob < n ∨ number = 0) := by simp only [Config.maxJob]; omega
  simp only [onGrant, if_neg inside, h]

variable {j : Job} (hj : w.hq.jobs.lookup n = some j)
include hj

theorem onGrant_of_held (h : j.stage = .held) : onGrant n number f w = (w, ⟨.mismatch, [u8 0]⟩) := by
  have inside : ¬ (n = 0 ∨ Config.maxJob < n ∨ number = 0) := by simp only [Config.maxJob]; omega
  simp only [onGrant, if_neg inside, hj, h]
  rfl

theorem onGrant_of_other {g : Grant} (hg : j.stage.grant? = some g) (other : g.number ≠ number) :
    onGrant n number f w = (w, ⟨.mismatch, [u8 j.stage.code]⟩) := by
  have inside : ¬ (n = 0 ∨ Config.maxJob < n ∨ number = 0) := by simp only [Config.maxJob]; omega
  simp only [onGrant, if_neg inside, hj, hg, if_pos other]
  rfl

theorem onGrant_of_grant {g : Grant} (hg : j.stage.grant? = some g) (same : g.number = number) :
    onGrant n number f w = f j g := by
  have inside : ¬ (n = 0 ∨ Config.maxJob < n ∨ number = 0) := by simp only [Config.maxJob]; omega
  simp only [onGrant, if_neg inside, hj, hg, if_neg (not_not.mpr same)]

end

/-- The three reports are checked alike (R73). -/
theorem report_onGrant {tag : Tag} {n number : Nat} {c : Instr}
    (h : c ∈ [.spoolAccepted tag n number, .spoolFailed tag n number]
      ∨ ∃ f : PagesDone, f.job = n ∧ f.grant = number ∧ c = .pagesDone tag f) (w : Work) :
    ∃ f, requestWork c w = onGrant n number f w := by
  obtain h | ⟨f, rfl, rfl, rfl⟩ := h
  · rw [List.mem_cons, List.mem_singleton] at h
    obtain rfl | rfl := h
    · exact ⟨_, rfl⟩
    · exact ⟨_, rfl⟩
  · exact ⟨_, rfl⟩

/-- Settles O41. -/
theorem spoolAccepted : Obligations.SpoolAccepted := by
  refine ⟨?checks, ?accepted⟩
  case checks =>
    intro s tag n number c code taken hc report
    obtain ⟨f, work⟩ := report_onGrant report s.work
    refine ⟨fun h => exec_refused taken hc (work.trans (onGrant_of_out_of_range h)), fun low high issued => ⟨fun h => ?_,
      fun j hj => ⟨fun h => ?_, fun g h other => ?_, fun g accepted h other => ?_⟩⟩⟩
    · exact exec_refused taken hc (work.trans (onGrant_of_none low high issued h))
    · exact exec_replied taken hc (work.trans (onGrant_of_held (w := s.work) low high issued hj h))
    · have mismatch := onGrant_of_other (w := s.work) (f := f) low high issued hj (by rw [h]; rfl) other
      rw [h] at mismatch
      exact exec_replied taken hc (work.trans mismatch)
    · have mismatch := onGrant_of_other (w := s.work) (f := f) low high issued hj (by rw [h]; rfl) other
      rw [h] at mismatch
      exact exec_replied taken hc (work.trans mismatch)
  case accepted =>
    intro s tag n number j low high issued hj
    refine ⟨fun g accepted taken h same => exec_refused taken rfl ?_, fun taken => ⟨fun g accepted h same =>
      exec_replied taken rfl ?_, ?_⟩⟩
    · refine (onGrant_of_grant (w := s.work) low high issued hj (by rw [h]; rfl) same).trans ?_
      simp only [h]
    · refine (onGrant_of_grant (w := s.work) low high issued hj (by rw [h]; rfl) same).trans ?_
      simp only [h]
      rfl
    · intro g h same window
      refine exec_ok taken rfl ((onGrant_of_grant (w := s.work) low high issued hj (by rw [h]; rfl) same).trans ?_)
      simp only [h]
      rfl

/-! ### What stands of an account's state behind a refund -/

/-- Two account tables whose accounts have the same states. -/
def SameStates (t u : Table Account) : Prop := ∀ i, (u.lookup i).map (·.state) = (t.lookup i).map (·.state)

theorem SameStates.refl (t : Table Account) : SameStates t t := fun _ => rfl

theorem SameStates.trans {t u v : Table Account} (h : SameStates t u) (k : SameStates u v) : SameStates t v :=
  fun i => (k i).trans (h i)

theorem SameStates.put {t : Table Account} {i : Nat} {a a' : Account} (ha : t.lookup i = some a) (h : a'.state = a.state) :
    SameStates t (t.put i a') := by
  intro k
  rw [Table.lookup_put]
  split
  · subst k
    rw [ha, Option.map_some, Option.map_some, h]
  · rfl

theorem sameStates_updateAccount (w : Work) (i : Nat) {f : Account → Account} (h : ∀ a, (f a).state = a.state) :
    SameStates w.adir.accounts (w.updateAccount i f).adir.accounts := by
  cases ha : w.adir.accounts.lookup i with
  | none => simp only [Work.updateAccount, ha]; exact .refl _
  | some a =>
    rw [updateAccount_of_lookup ha]
    exact .put ha (h a)

theorem sameStates_leaveFlight (p n i : Nat) (w : Work) :
    SameStates w.adir.accounts (leaveFlight p n i w).adir.accounts := by
  unfold leaveFlight
  exact sameStates_updateAccount (w.setInFlight p _) i fun _ => rfl

theorem sameStates_refund (i : Nat) (g : Grant) (w : Work) : SameStates w.adir.accounts (refund i g w).adir.accounts := by
  cases ha : w.adir.accounts.lookup i with
  | none => simp only [refund, changeReserved, evaluateWarning, ha]; exact .refl _
  | some a =>
    obtain ⟨accounts, pools, raised, refunded, parts⟩ := evaluated_changeReserved i g.accountPart g.poolPart (· - ·) w
    obtain ⟨put, -⟩ := parts a ha
    rw [show refund i g w = _ from refunded, put]
    exact .put ha rfl

theorem ownerRetiring_sameStates {r r' : Records} (h : SameStates r.adir.accounts r'.adir.accounts) (i : Nat) :
    ownerRetiring r' i = ownerRetiring r i := by
  have same := h i
  unfold ownerRetiring
  cases ha : r.adir.accounts.lookup i with
  | none =>
    rw [ha, Option.map_none, Option.map_eq_none_iff] at same
    simp only [same]
  | some a =>
    rw [ha, Option.map_some, Option.map_eq_some_iff] at same
    obtain ⟨a', ha', state⟩ := same
    simp only [ha', state]

/-! ### A job given back (R47, R75, R78) -/

section
variable {w : Work} {n : Nat} {failed : Bool} {from? : Option Nat} {j : Job}

theorem returnReason_congr {r r' : Records} (settings : settingsOf r' = settingsOf r) (clock : r'.fck = r.fck)
    (states : SameStates r.adir.accounts r'.adir.accounts) : returnReason r' failed j = returnReason r failed j := by
  have maxAttempts : r'.rlu.maxAttempts = r.rlu.maxAttempts := congrArg (fun t => t.2.2.1.maxAttempts) settings
  simp only [returnReason, maxAttempts, clock, ownerRetiring_sameStates states]

/-- What R47 decides, whatever the release has given back before. -/
theorem returnReason_refund (n : Nat) (j' : Job) (g : Grant) :
    returnReason ((refund j.owner g (leaveFlight g.printer n j.owner w)).setJob n j').toRecords failed j' =
      returnReason w.toRecords failed j' := by
  have kept := (kept_leaveFlight g.printer n j.owner w).trans (kept_refund j.owner g _)
  have states := (sameStates_leaveFlight g.printer n j.owner w).trans (sameStates_refund j.owner g _)
  exact returnReason_congr kept.settings kept.clock states

variable {g : Grant} (hj : w.hq.jobs.lookup n = some j) (releasing : j.stage = .releasing g)
include hj releasing

/-- A release that ends with the job's removal. -/
theorem endRelease_of_removed {reason : RemovalReason}
    (h : returnReason w.toRecords failed { j with stage := .held, attempts := if failed then j.attempts + 1 else j.attempts } =
      some reason) :
    endRelease failed from? w n =
      removeJob n reason (returnLeft reason) ((refund j.owner g (leaveFlight g.printer n j.owner w)).setJob n
        { j with stage := .held, attempts := if failed then j.attempts + 1 else j.attempts }) := by
  simp only [endRelease, hj, releasing, takeBack, returnReason_refund, h]

/-- A release that ends with the job HELD again. -/
theorem endRelease_of_held
    (h : returnReason w.toRecords failed { j with stage := .held, attempts := if failed then j.attempts + 1 else j.attempts } =
      none) :
    endRelease failed none w n =
        offerJob n j.owner ((refund j.owner g (leaveFlight g.printer n j.owner w)).setJob n
          { j with stage := .held, attempts := if failed then j.attempts + 1 else j.attempts })
      ∧ ∀ p, endRelease failed (some p) w n =
          offerJob n j.owner (rerouteJob p ((refund j.owner g (leaveFlight g.printer n j.owner w)).setJob n
            { j with stage := .held, attempts := if failed then j.attempts + 1 else j.attempts }) n) := by
  constructor
  · simp only [endRelease, hj, releasing, takeBack, returnReason_refund, h]
  · intro p
    simp only [endRelease, hj, releasing, takeBack, returnReason_refund, h]

end

section
variable {r : Records} {failed : Bool} {j : Job}

theorem returnReason_of_attempts (many : r.rlu.maxAttempts ≤ j.attempts) : returnReason r true j = some .attempts :=
  if_pos (by simpa using many)

variable (few : failed = false ∨ j.attempts < r.rlu.maxAttempts)
include few

theorem returnReason_of_retiring (h : ownerRetiring r j.owner = true) : returnReason r failed j = some .ownerRetired := by
  refine (if_neg ?_).trans (if_pos h)
  rw [Bool.and_eq_true, decide_eq_true_eq]
  rintro ⟨rfl, many⟩
  exact few.elim (by simp) (Nat.not_lt.mpr many)

variable (stays : ownerRetiring r j.owner = false)
include stays

theorem returnReason_of_expired (h : fallen r.fck.uptime j.expiry) : returnReason r failed j = some .expired := by
  refine (if_neg ?_).trans ((if_neg (by simp [stays])).trans (if_pos ((reached_iff_fallen _ _).mpr h)))
  rw [Bool.and_eq_true, decide_eq_true_eq]
  rintro ⟨rfl, many⟩
  exact few.elim (by simp) (Nat.not_lt.mpr many)

theorem returnReason_of_none (h : ¬ fallen r.fck.uptime j.expiry) : returnReason r failed j = none := by
  refine (if_neg ?_).trans ((if_neg (by simp [stays])).trans (if_neg (mt (reached_iff_fallen _ _).mp h)))
  rw [Bool.and_eq_true, decide_eq_true_eq]
  rintro ⟨rfl, many⟩
  exact few.elim (by simp) (Nat.not_lt.mpr many)

end

/-! ### The offer of a job to a visit (R63) -/

section
variable {w : Work} {n i k : Nat} {a : Account} (ha : w.adir.accounts.lookup i = some a)
include ha

theorem offerJob_of_no_visit (h : a.openVisit = none) : offerJob n i w = w := by
  simp only [offerJob, openVisit?_of_lookup ha, h]

variable (hk : a.openVisit = some k)
include hk

theorem offerJob_of_not_opened (h : ∀ v, w.rlu.visits.lookup k ≠ some (.opened v)) : offerJob n i w = w := by
  cases hv : w.rlu.visits.lookup k with
  | none => simp only [offerJob, openVisit?_of_lookup ha, hk, hv]
  | some u =>
    cases u with
    | opened v => exact absurd hv (h v)
    | draining d => simp only [offerJob, openVisit?_of_lookup ha, hk, hv]

variable {v : OpenVisit} (hv : w.rlu.visits.lookup k = some (.opened v))
include hv

theorem offerJob_of_ineligible (h : eligible w.toRecords k n = false) : offerJob n i w = w := by
  simp only [offerJob, openVisit?_of_lookup ha, hk, hv]
  exact if_pos (by rw [h]; rfl)

variable (fits : eligible w.toRecords k n = true)
include fits

theorem offerJob_of_room (room : v.menu.length < 8) :
    offerJob n i w = w.setVisit k (.opened (placeInMenu (w.hq.lists.list i) n v)) := by
  simp only [offerJob, openVisit?_of_lookup ha, hk, hv]
  exact (if_neg (by rw [fits]; decide)).trans (if_pos room)

theorem offerJob_of_full (full : 8 ≤ v.menu.length) :
    offerJob n i w = w.setVisit k (.opened { v with more := v.more + 1 }) := by
  simp only [offerJob, openVisit?_of_lookup ha, hk, hv]
  exact (if_neg (by rw [fits]; decide)).trans (if_neg (Nat.not_lt.mpr full))

end

/-! ### SPOOL_FAILED and the grant window (R75) -/

section
variable {w : Work} {n : Nat} {j : Job} {g : Grant} (hj : w.hq.jobs.lookup n = some j) (releasing : j.stage = .releasing g)
include hj releasing

theorem handleSpoolFailed_of_releasing (low : 1 ≤ n) (high : n ≤ 65535) (issued : g.number ≠ 0) {reason : Returned}
    (h : returnReason w.toRecords true { j with stage := .held, attempts := j.attempts + 1 } = reason) :
    handleSpoolFailed n g.number w =
      (failRelease n j g w).ok
        [u8 (j.attempts + 1), if reason.isNone then u8 0 else .absent, opt (fun r => u8 r.code) reason] := by
  refine (onGrant_of_grant low high issued hj (by rw [releasing]; rfl) rfl).trans ?_
  subst h
  simp only [releasing]

theorem grantWindowFalls_of_due {d : Deadline} (hd : window? w.toRecords g.printer n = some d) (due : fallen w.now d) :
    grantWindowFalls n w = failRelease n j g w := by
  simp only [grantWindowFalls, hj, releasing, hd]
  exact if_pos ((reached_iff_fallen _ _).mpr due)

end

theorem code_eq_one_iff (stage : Stage) : stage.code = 1 ↔ ∃ g, stage = .releasing g := by
  cases stage <;> simp [Stage.code]

/-- The jobs that are returned are the RELEASING ones of the in-flight list. -/
theorem releasingAt_eq {r : Records} {p : Nat} {releasing : Nat → Bool}
    (h : ∀ n, releasing n = true ↔ ∃ j g, r.hq.jobs.lookup n = some j ∧ j.stage = .releasing g) :
    releasingAt r p = ((r.rlu.inFlight.list p).map (·.job)).filter releasing := by
  refine List.filter_congr fun n _ => Bool.eq_iff_iff.mpr ((Iff.trans ?_ (h n).symm))
  cases hj : r.hq.jobs.lookup n with
  | none => simp
  | some j => simp [code_eq_one_iff]

/-- Settles O42. -/
theorem releaseFailed : Obligations.ReleaseFailed := by
  refine ⟨?failed, ?withdrawn, fun w p from? releasing h => ?_, ?parts⟩
  case failed =>
    intro s tag n j g hj releasing low high back w finish ending
    have ends {last : Work} {reason : Returned} {body : List Field} (h : endRelease true none s.work n = last)
        (hr : returnReason s.toRecords true back = reason)
        (hb : [if reason.isNone then u8 0 else .absent, opt (fun r => u8 r.code) reason] = body) : ending last body := by
      subst h hb
      exact ⟨fun issued taken => exec_ok taken rfl (handleSpoolFailed_of_releasing (w := s.work) hj releasing low high issued hr),
        fun power d hd due => exec_passed power rfl (grantWindowFalls_of_due (w := s.work) hj releasing hd due)⟩
    have removed {reason : RemovalReason} (hr : returnReason s.toRecords true back = some reason) :
        ending (removeJob n reason (returnLeft reason) w) [.absent, u8 reason.code] :=
      ends (endRelease_of_removed (w := s.work) hj releasing hr) hr rfl
    refine ⟨fun many => removed (returnReason_of_attempts many), fun few retiring => removed (returnReason_of_retiring (.inr few) retiring),
      fun few stays due => removed (returnReason_of_expired (.inr few) stays due), fun few stays notDue => ?_⟩
    have held := returnReason_of_none (failed := true) (j := back) (.inr few) stays notDue
    obtain ⟨offered, -⟩ := endRelease_of_held (w := s.work) hj releasing held
    exact ends offered held rfl
  case withdrawn =>
    intro w n p j g from? hj releasing back
    refine ⟨fun retiring => ?_, fun stays => ⟨fun due => ?_, fun notDue => ?_⟩⟩
    · exact endRelease_of_removed hj releasing (returnReason_of_retiring (.inl rfl) retiring)
    · exact endRelease_of_removed hj releasing (returnReason_of_expired (.inl rfl) stays due)
    · obtain ⟨offered, rerouted⟩ :=
        endRelease_of_held hj releasing (returnReason_of_none (failed := false) (.inl rfl) stays notDue)
      exact ⟨offered, rerouted p⟩
  case parts =>
    intro w n p i g a ha
    refine ⟨updateAccount_of_lookup (by exact ha) _, ⟨fun noPool => ?_, fun k q hk hq => ?_⟩, ?_, ?_⟩
    · rw [refund, changeReserved_of_no_pool ha noPool]
    · rw [refund, changeReserved_of_pool ha hk hq]
    · rintro (none_ | ⟨k, hk, notOpened⟩)
      · exact offerJob_of_no_visit ha none_
      · exact offerJob_of_not_opened ha hk notOpened
    · intro k v hk hv menu
      exact ⟨fun h => offerJob_of_ineligible ha hk hv h, fun fits room => offerJob_of_room ha hk hv fits room,
        fun fits full => offerJob_of_full ha hk hv fits full⟩
  · rw [returnReleasing, releasingAt_eq h]

/-! ### Settlement (R24, R25, R76, R77) -/

section
variable {w : Work} {i x : Nat} {g : Grant} {acct : Account} (ha : w.adir.accounts.lookup i = some acct)
include ha

/-- The account a settlement posts to (R25). -/
theorem postSettlement_of_no_pool (h : acct.pool = none) :
    postSettlement i g x w =
      evaluateWarning i (w.setAccount i
        { acct with
          balance := lower acct.balance (settledParts g x).1
          reserved := acct.reserved - g.accountPart
          usedPeriod := saturate (acct.usedPeriod + x)
          today := saturate (acct.today + x) }) := by
  simp only [postSettlement, ha]
  split
  · rfl
  · rename_i k hk
    rw [h] at hk
    cases hk

/-- The account and the pool a settlement posts to (R25). -/
theorem postSettlement_of_pool {k : Nat} {q : Pool} (hk : acct.pool = some k) (hq : w.adir.pools.lookup k = some q) :
    postSettlement i g x w =
      evaluateWarning i ((w.setAccount i
        { acct with
          balance := lower acct.balance (settledParts g x).1
          reserved := acct.reserved - g.accountPart
          usedPeriod := saturate (acct.usedPeriod + x)
          today := saturate (acct.today + x) }).setPool k
        { q with
          balance := lower q.balance (settledParts g x).2
          reserved := q.reserved - g.poolPart
          usedPeriod := saturate (q.usedPeriod + (settledParts g x).2) }) := by
  simp only [postSettlement, ha]
  split
  · rename_i none_
    rw [hk] at none_
    cases none_
  · rename_i k' hk'
    obtain rfl : k = k' := Option.some.inj (hk.symm.trans hk')
    rw [updatePool_of_lookup (by exact hq)]

end

section
variable {w : Work} {n : Nat} {j : Job} {g : Grant} (hj : w.hq.jobs.lookup n = some j)
include hj

theorem handlePagesDone_of_grant {f : PagesDone} (hf : f.job = n) (quoted : f.grant = g.number) (low : 1 ≤ n) (high : n ≤ 65535)
    (issued : g.number ≠ 0) (hg : j.stage.grant? = some g) :
    handlePagesDone f w =
      (settleJob n j g (reportedPages f) w).ok
        [u32 (charge w.qtu f.mono f.colour j.size), u32 (settledParts g (charge w.qtu f.mono f.colour j.size)).1,
          u32 (settledParts g (charge w.qtu f.mono f.colour j.size)).2] := by
  subst hf
  exact onGrant_of_grant low high (quoted ▸ issued) hj hg quoted.symm

variable {accepted : Nat} (printing : j.stage = .printing g accepted) {d : Deadline}
  (hd : window? w.toRecords g.printer n = some d)
include printing hd

theorem completionWindowFalls_of_due (due : fallen w.now d) :
    completionWindowFalls n w = settleJob n j g (declaredPages j) w := by
  simp only [completionWindowFalls, hj, printing, hd]
  exact if_pos ((reached_iff_fallen _ _).mpr due)

theorem completionWindowFalls_of_not_due (notDue : ¬ fallen w.now d) : completionWindowFalls n w = w := by
  simp only [completionWindowFalls, hj, printing, hd]
  exact if_neg (mt (reached_iff_fallen _ _).mp notDue)

end

/-- A settlement in the order of R76, its charge given. -/
theorem settleJob_eq (n : Nat) (j : Job) (g : Grant) (w : Work) (basis : Basis) (mono colour : Nat) (v : Coverage) {x : Nat}
    (hx : charge w.qtu mono colour j.size = x) :
    settleJob n j g ⟨basis, mono, colour, v⟩ w =
      completePrinter g.printer (completeAccount j.owner (leaveQueue n j.owner
        ((leaveFlight g.printer n j.owner
          (endHandling (applyConsumption g.printer j.size mono colour v (postSettlement j.owner g x w)))).raise .jobSettled n
          [u16 n, u16 j.owner, u8 g.printer, u32 g.number, u8 basis.code, u16 mono, u16 colour, u32 x,
            u32 (settledParts g x).1, u32 (settledParts g x).2]))) := by
  subst hx
  rfl

/-- Settles O43. -/
theorem settled : Obligations.Settled := by
  intro s tag n j g hj low high settled
  refine ⟨?reported, fun accepted d printing power hd => ⟨fun due => ?_, fun notDue => ?_⟩, ?posted, ?consumed⟩
  case reported =>
    intro f hf quoted issued taken flying a
    have hg : j.stage.grant? = some g := by
      obtain releasing | ⟨accepted, printing⟩ := flying
      · rw [releasing]; rfl
      · rw [printing]; rfl
    have work := handlePagesDone_of_grant (w := s.work) hj hf quoted low high issued hg
    rw [reportedPages, settleJob_eq n j g s.work .reported f.mono f.colour _ rfl] at work
    exact exec_ok taken rfl work
  · have work := completionWindowFalls_of_due (w := s.work) hj printing hd due
    rw [declaredPages, ratedCoverage, settleJob_eq n j g s.work .byDefault j.mono j.colour _ rfl] at work
    exact exec_passed power rfl work
  · exact exec_passed power rfl (completionWindowFalls_of_not_due (w := s.work) hj printing hd notDue)
  case posted =>
    intro a acct ha posted
    exact ⟨postSettlement_of_no_pool (w := s.work) ha, fun p q hp hq => postSettlement_of_pool (w := s.work) ha hp hq⟩
  case consumed =>
    intro w p mono colour v used
    have used_eq (sum sides : Nat) : used sum sides = consumption j.size sum sides := by
      simp only [used, consumption]
      cases j.size <;> rfl
    simp only [used_eq]
    rfl

/-! ### VISIT_READ and PRINTER_READ (R81, R102) -/

/-- The in-flight list of a VISIT_READ, encoded entry by entry. -/
theorem listField_inFlightEntry {r : Records} {flying : List (InFlight × Job × Grant)}
    (h : ∀ e ∈ flying, r.hq.jobs.lookup e.1.job = some e.2.1
      ∧ (e.2.1.stage = .releasing e.2.2 ∨ ∃ accepted, e.2.1.stage = .printing e.2.2 accepted)) :
    listField (inFlightEntry r) (flying.map (·.1)) =
      .bytes (flying.flatMap fun e =>
        beBytes 2 e.1.job ++ beBytes 2 e.2.1.owner ++ beBytes 4 e.2.2.number ++ beBytes 1 e.2.1.stage.code
          ++ beBytes 4 e.1.window.value) := by
  rw [listField, List.flatMap_map]
  refine congrArg Field.bytes (List.flatMap_congr fun e he => ?_)
  obtain ⟨hj, stage⟩ := h e he
  have number : (e.2.1.stage.grant?.map (·.number)).getD 0 = e.2.2.number := by
    obtain stage | ⟨accepted, stage⟩ := stage <;> rw [stage] <;> rfl
  simp only [inFlightEntry, hj, number, List.flatMap_cons, List.flatMap_nil, List.append_nil, u8, u16, u32, deadlineField,
    Field.encode, List.append_assoc]

theorem listField_u16 (l : List Nat) : listField (fun n => [u16 n]) l = .bytes (l.flatMap (beBytes 2)) := by
  simp only [listField, List.flatMap_cons, List.flatMap_nil, List.append_nil, u16, Field.encode]

theorem answerVisitRead_of_lookup {r : Records} {i : Nat} {q : Printer} (hi : i < 96) (hq : r.ptb.printers.lookup i = some q) :
    answerVisitRead i r = answer .ok (visitReadFields r i ++ [listField (inFlightEntry r) (inFlightList r i)]) := by
  simp only [answerVisitRead, if_neg (inPrinters hi), hq]

theorem answerPrinterRead_of_lookup {r : Records} {i : Nat} {q : Printer} (hi : i < 96)
    (hq : r.ptb.printers.lookup i = some q) :
    answerPrinterRead i r = answer .ok
      ([u8 q.state.code, flag q.present] ++ printerConfig q ++
        [flag q.restartUsed, compound (causeParts q.state), condSetField q.live, condSetField q.latched,
          listField (fun e => [u8 (conditionCode e.1), deadlineField e.2]) q.qualification,
          opt deadlineField q.heartbeat, opt deadlineField q.absence, opt deadlineField q.restart,
          opt deadlineField q.restartCredit, u8 (inFlightList r i).length, u32 (siblingsOf r i)]) := by
  simp only [answerPrinterRead, if_neg (inPrinters hi), hq]

theorem listField_qualification (l : List (Condition × Deadline)) :
    listField (fun e => [u8 (conditionCode e.1), deadlineField e.2]) l =
      .bytes (l.flatMap fun e => beBytes 1 (conditionCode e.1) ++ beBytes 4 e.2.value) := by
  simp only [listField, List.flatMap_cons, List.flatMap_nil, List.append_nil, u8, u32, deadlineField, Field.encode]

/-- Settles O44. -/
theorem terminalRead : Obligations.TerminalRead := by
  intro s tag i
  refine ⟨fun taken => ⟨fun outside => exec_reads taken rfl rfl (if_pos outside), fun hi free => ?_, ?visit⟩,
    fun taken => ⟨fun outside => exec_reads taken rfl rfl (if_pos outside), fun hi free => ?_, fun q hi hq => ?_⟩⟩
  case visit =>
    intro q flying hi hq listed standing list numbers
    have reads_ := answerVisitRead_of_lookup hi hq
    rw [← listed, listField_inFlightEntry standing] at reads_
    refine ⟨fun hv => ?_, fun v hv => ?_, fun d hv => ?_⟩ <;> refine exec_reads taken rfl rfl (reads_.trans ?_) <;>
      simp only [visitReadFields, hv, listField_u16] <;> rfl
  · refine exec_reads taken rfl rfl ?_
    simp only [answerVisitRead, if_neg (inPrinters hi), free, refuse]
  · refine exec_reads taken rfl rfl ?_
    simp only [answerPrinterRead, if_neg (inPrinters hi), free, refuse]
  · refine exec_reads taken rfl rfl ((answerPrinterRead_of_lookup hi hq).trans ?_)
    rw [listField_qualification]
    rfl

end Sys2Proof.Release
end

section
/-! PROOF. Printers: adding and setting them (R100, R101), reports and conditions (R86 to R89, R95, R99), withdrawal and return
(R96, R97), what a change of health brings (R78, R98), and their deadlines (R90 to R94, R105). -/

namespace Sys2Proof.Printers

open Sys2Proof.Machine Sys2Proof.Safety Sys2Proof.Laws Sys2Proof.Hold Sys2Proof.Release

/-! ### What the checks of a configuration ask (R100, R101) -/

theorem configInRange_iff (floor modelGroup slotCount : Nat) :
    configInRange floor modelGroup slotCount = true ↔ floor < 128 ∧ modelGroup < 16 ∧ (slotCount = 1 ∨ slotCount = 4) := by
  simp only [configInRange, Bool.and_eq_true, Bool.or_eq_true, decide_eq_true_eq, beq_iff_eq, and_assoc]
  rfl

theorem getD_iff {α : Type} {P : α → Prop} {d : α} (hd : P d) (o : Option α) : P (o.getD d) ↔ ∀ v, o = some v → P v := by
  cases o <;> simp [hd]

/-- The fields a PRINTER_SET selects are in their ranges; those it leaves out are not looked at. -/
theorem configInRange_selected_iff (f : PrinterSet) :
    configInRange (f.floor.getD 0) (f.modelGroup.getD 0) (f.slotCount.getD 1) = true ↔
      (∀ v, f.floor = some v → v < 128) ∧ (∀ v, f.modelGroup = some v → v < 16) ∧ ∀ v, f.slotCount = some v → v = 1 ∨ v = 4 := by
  rw [configInRange_iff, getD_iff (P := (· < 128)) (by decide), getD_iff (P := (· < 16)) (by decide),
    getD_iff (P := fun v => v = 1 ∨ v = 4) (.inl rfl)]

section
variable {r : Records} {p k : Nat}

theorem siblingRefusal?_of_range (h : 96 ≤ k ∨ k = p ∨ r.ptb.printers.lookup k = none) :
    siblingRefusal? r p (some k) = some .range := by
  by_cases outside : Config.printers ≤ k ∨ k = p
  · exact if_pos outside
  · have free : r.ptb.printers.lookup k = none := by
      obtain h | h | h := h
      · exact absurd (.inl h) outside
      · exact absurd (.inr h) outside
      · exact h
    simp only [siblingRefusal?, if_neg outside, free]

variable {q : Printer} (hk : k < 96) (other : k ≠ p) (hq : r.ptb.printers.lookup k = some q)
include hk other hq

theorem siblingRefusal?_of_retiring {accepted : Nat} (h : q.state = .retiring accepted) :
    siblingRefusal? r p (some k) = some .retiring := by
  have inside : ¬ (Config.printers ≤ k ∨ k = p) := not_or.mpr ⟨inPrinters hk, other⟩
  simp only [siblingRefusal?, if_neg inside, hq, h]

theorem siblingRefusal?_of_running (h : ∀ accepted, q.state ≠ .retiring accepted) : siblingRefusal? r p (some k) = none := by
  have inside : ¬ (Config.printers ≤ k ∨ k = p) := not_or.mpr ⟨inPrinters hk, other⟩
  cases hs : q.state with
  | retiring accepted => exact absurd hs (h accepted)
  | _ => simp only [siblingRefusal?, if_neg inside, hq, hs]

end

theorem siblingRefusal?_of_allowed {r : Records} {p : Nat} {sibling : Option Nat}
    (h : ∀ k, sibling = some k → k < 96 ∧ k ≠ p ∧ ∃ q, r.ptb.printers.lookup k = some q ∧ ∀ accepted, q.state ≠ .retiring accepted) :
    siblingRefusal? r p sibling = none := by
  cases sibling with
  | none => rfl
  | some k =>
    obtain ⟨hk, other, q, hq, runs⟩ := h k rfl
    exact siblingRefusal?_of_running hk other hq runs

/-- The sibling a PRINTER_SET selects; one it leaves out is not looked at. -/
theorem siblingRefusal?_of_selected {r : Records} {p : Nat} {selected : Option (Option Nat)}
    (h : ∀ k, selected = some (some k) →
      k < 96 ∧ k ≠ p ∧ ∃ q, r.ptb.printers.lookup k = some q ∧ ∀ accepted, q.state ≠ .retiring accepted) :
    siblingRefusal? r p (selected.getD none) = none := by
  refine siblingRefusal?_of_allowed fun k hk => h k ?_
  cases selected with
  | none => cases hk
  | some o => rw [← hk]; rfl

theorem raisePrinterState_of_lookup {w : Work} {i : Nat} {q : Printer} (h : w.ptb.printers.lookup i = some q) (previous : Nat) :
    raisePrinterState i previous w = w.raise .printerState i (printerStateFields i previous q) := by
  simp only [raisePrinterState, h]

/-! ### PRINTER_ADD (R100) -/

section
variable {f : PrinterAdd} {w : Work}

theorem handlePrinterAdd_of_bytes (h : ¬ yesNos [f.colour, f.duplex, f.largeTray, f.autoReturn, f.restartPermitted] = true) :
    handlePrinterAdd f w = w.refuse .range := if_pos (by simpa using h)

theorem handlePrinterAdd_of_out_of_range (h : 96 ≤ f.printer) : handlePrinterAdd f w = w.refuse .range := by
  unfold handlePrinterAdd
  split
  · rfl
  · exact if_pos h

variable (bytes : yesNos [f.colour, f.duplex, f.largeTray, f.autoReturn, f.restartPermitted] = true) (hp : f.printer < 96)
include bytes hp

theorem handlePrinterAdd_of_taken {q : Printer} (hq : w.ptb.printers.lookup f.printer = some q)
    (h : ∀ accepted, q.state ≠ .retiring accepted) : handlePrinterAdd f w = w.refuse .duplicate := by
  unfold handlePrinterAdd
  rw [if_neg (by rw [bytes]; decide), if_neg (inPrinters hp)]
  cases hs : q.state with
  | retiring accepted => exact absurd hs (h accepted)
  | _ => simp only [hq, hs]

theorem handlePrinterAdd_of_retiring {q : Printer} {accepted : Nat} (hq : w.ptb.printers.lookup f.printer = some q)
    (h : q.state = .retiring accepted) : handlePrinterAdd f w = w.refuse .retiring := by
  unfold handlePrinterAdd
  rw [if_neg (by rw [bytes]; decide), if_neg (inPrinters hp)]
  simp only [hq, h]

variable (free : w.ptb.printers.lookup f.printer = none)
include free

theorem handlePrinterAdd_of_fields (h : ¬ (f.floor < 128 ∧ f.modelGroup < 16 ∧ (f.slotCount = 4 ∨ f.slotCount = 1 ∧ f.colour = 0)))
    (colour : f.colour ≤ 1) : handlePrinterAdd f w = w.refuse .range := by
  unfold handlePrinterAdd
  rw [if_neg (by rw [bytes]; decide), if_neg (inPrinters hp)]
  simp only [free]
  by_cases inRange : configInRange f.floor f.modelGroup f.slotCount = true
  · rw [if_neg (by simp [inRange])]
    refine if_pos ?_
    rw [configInRange_iff] at inRange
    rw [yes, beq_iff_eq]
    omega
  · exact if_pos (by simpa using inRange)

variable (fields : f.floor < 128 ∧ f.modelGroup < 16 ∧ (f.slotCount = 4 ∨ f.slotCount = 1 ∧ f.colour = 0))
include fields

theorem handlePrinterAdd_of_sibling {o : ReplyOutcome} (h : siblingRefusal? w.toRecords f.printer f.sibling = some o) :
    handlePrinterAdd f w = w.refuse o := by
  have inRange : configInRange f.floor f.modelGroup f.slotCount = true := by rw [configInRange_iff]; omega
  have mono : ¬ (yes f.colour = true ∧ f.slotCount ≠ 4) := by rw [yes, beq_iff_eq]; omega
  unfold handlePrinterAdd
  rw [if_neg (by rw [bytes]; decide), if_neg (inPrinters hp)]
  simp only [free]
  rw [if_neg (by simp [inRange]), if_neg mono]
  simp only [h]

theorem handlePrinterAdd_of_allowed (h : siblingRefusal? w.toRecords f.printer f.sibling = none) :
    handlePrinterAdd f w =
      ((w.setPrinter f.printer (addedPrinter f)).raise .printerState f.printer
        (printerStateFields f.printer 0 (addedPrinter f))).ok (printerConfig (addedPrinter f)) := by
  have inRange : configInRange f.floor f.modelGroup f.slotCount = true := by rw [configInRange_iff]; omega
  have mono : ¬ (yes f.colour = true ∧ f.slotCount ≠ 4) := by rw [yes, beq_iff_eq]; omega
  unfold handlePrinterAdd
  rw [if_neg (by rw [bytes]; decide), if_neg (inPrinters hp)]
  simp only [free]
  rw [if_neg (by simp [inRange]), if_neg mono]
  simp only [h]
  rw [raisePrinterState_of_lookup (Table.lookup_put_self _ _ _)]

end

/-! ### PRINTER_SET (R101) -/

section
variable {r : Records} {f : PrinterSet} {q : Printer}

theorem printerSetRefusal?_of_fields
    (h : ¬ configInRange (f.floor.getD 0) (f.modelGroup.getD 0) (f.slotCount.getD 1) = true) :
    printerSetRefusal? r f q = some .range := if_pos (by simpa using h)

variable (fields : configInRange (f.floor.getD 0) (f.modelGroup.getD 0) (f.slotCount.getD 1) = true)
include fields

theorem printerSetRefusal?_of_sibling {o : ReplyOutcome} (h : siblingRefusal? r f.printer (f.sibling.getD none) = some o) :
    printerSetRefusal? r f q = some o := by
  refine (if_neg (by simp [fields])).trans ?_
  simp only [h]

variable (sibling : siblingRefusal? r f.printer (f.sibling.getD none) = none)
include sibling

theorem printerSetRefusal?_eq :
    printerSetRefusal? r f q =
      if (setPrinterFields f q).colourCapable = true ∧ (setPrinterFields f q).slotCount ≠ 4 then some .range
      else if (setPrinterFields f q).slotCount = 1 ∧ anyFitted r f.printer [.c, .m, .y] = true then some .state
      else if (setPrinterFields f q).modelGroup ≠ q.modelGroup ∧ anyFitted r f.printer [.k, .c, .m, .y] = true then some .state
      else none := by
  refine (if_neg (by simp [fields])).trans ?_
  simp only [sibling]

end

theorem anyFitted_iff (r : Records) (p : Nat) (letters : List SlotLetter) :
    anyFitted r p letters = true ↔ ∃ l ∈ letters, r.spu.slots.lookup (slotKey p l) ≠ none := by
  simp only [anyFitted, List.any_eq_true, Option.isSome_iff_ne_none]

section
variable {f : PrinterSet} {w : Work} {q : Printer}

theorem handlePrinterSet_of_bytes
    (h : ¬ yesNos (f.colour.toList ++ f.duplex.toList ++ f.largeTray.toList ++ f.autoReturn.toList ++ f.restartPermitted.toList)
      = true) : handlePrinterSet f w = w.refuse .range := if_pos (by simpa using h)

variable (bytes : yesNos (f.colour.toList ++ f.duplex.toList ++ f.largeTray.toList ++ f.autoReturn.toList
    ++ f.restartPermitted.toList) = true)
  (hp : f.printer < 96) (hq : w.ptb.printers.lookup f.printer = some q)
include bytes hp hq

theorem handlePrinterSet_of_retiring {accepted : Nat} (h : q.state = .retiring accepted) :
    handlePrinterSet f w = w.refuse .retiring := by
  unfold handlePrinterSet
  rw [if_neg (by rw [bytes]; decide), if_neg (inPrinters hp)]
  simp only [hq, h]

variable (runs : ∀ accepted, q.state ≠ .retiring accepted)
include runs

theorem handlePrinterSet_of_refusal {o : ReplyOutcome} (h : printerSetRefusal? w.toRecords f q = some o) :
    handlePrinterSet f w = w.refuse o := by
  unfold handlePrinterSet
  rw [if_neg (by rw [bytes]; decide), if_neg (inPrinters hp)]
  cases hs : q.state with
  | retiring accepted => exact absurd hs (runs accepted)
  | _ => simp only [hq, hs, h]

theorem handlePrinterSet_of_allowed (h : printerSetRefusal? w.toRecords f q = none) :
    handlePrinterSet f w = (w.setPrinter f.printer (setPrinterFields f q)).ok (printerConfig (setPrinterFields f q)) := by
  unfold handlePrinterSet
  rw [if_neg (by rw [bytes]; decide), if_neg (inPrinters hp)]
  cases hs : q.state with
  | retiring accepted => exact absurd hs (runs accepted)
  | _ => simp only [hq, hs, h]

end

/-- Settles O45: the refusals of both requests in their order, and what each stores. -/
theorem printerAddedAndSet : Obligations.PrinterAddedAndSet := by
  intro s tag
  refine ⟨?addRefused, ?setRefused, ?added, ?setStored⟩
  case addRefused =>
    intro f taken refused bytes fields
    have yesNo : yesNos [f.colour, f.duplex, f.largeTray, f.autoReturn, f.restartPermitted] = true ↔ bytes := by
      simp [yesNos_iff, bytes]
    refine ⟨fun h => ?_, fun hp hb => ⟨fun q hq => ⟨fun runs => ?_, fun accepted retiring => ?_⟩, fun free => ⟨fun no => ?_,
      fun k hf hk => ⟨fun h => ?_, fun q accepted inside other hq retiring => ?_⟩⟩⟩⟩
    · obtain h | h := h
      · exact exec_refused taken rfl (handlePrinterAdd_of_out_of_range (w := s.work) h)
      · exact exec_refused taken rfl (handlePrinterAdd_of_bytes (w := s.work) (mt yesNo.mp h))
    · exact exec_refused taken rfl (handlePrinterAdd_of_taken (w := s.work) (yesNo.mpr hb) hp hq runs)
    · exact exec_refused taken rfl (handlePrinterAdd_of_retiring (w := s.work) (yesNo.mpr hb) hp hq retiring)
    · exact exec_refused taken rfl (handlePrinterAdd_of_fields (w := s.work) (yesNo.mpr hb) hp free no hb.1)
    · exact exec_refused taken rfl (handlePrinterAdd_of_sibling (w := s.work) (yesNo.mpr hb) hp free hf
        (hk ▸ siblingRefusal?_of_range h))
    · exact exec_refused taken rfl (handlePrinterAdd_of_sibling (w := s.work) (yesNo.mpr hb) hp free hf
        (hk ▸ siblingRefusal?_of_retiring inside other hq retiring))
  case setRefused =>
    intro f q taken hp hq bytes refused
    have yesNo := yesNos_iff
      (f.colour.toList ++ f.duplex.toList ++ f.largeTray.toList ++ f.autoReturn.toList ++ f.restartPermitted.toList)
    refine ⟨fun h => ?_, fun accepted hb retiring => ?_, ?_⟩
    · exact exec_refused taken rfl (handlePrinterSet_of_bytes (w := s.work) (mt yesNo.mp h))
    · exact exec_refused taken rfl (handlePrinterSet_of_retiring (w := s.work) (yesNo.mpr hb) hp hq retiring)
    intro hb runs fields
    have refusal {o : ReplyOutcome} (h : printerSetRefusal? s.toRecords f q = some o) : refused o :=
      exec_refused taken rfl (handlePrinterSet_of_refusal (w := s.work) (yesNo.mpr hb) hp hq runs h)
    have inRange := configInRange_selected_iff f
    refine ⟨fun no => refusal (printerSetRefusal?_of_fields (mt inRange.mp no)), fun k hf hk => ⟨fun h => ?_,
      fun r accepted inside other hr retiring => ?_⟩, fun hf sibling colour slots => refusal ?_⟩
    · exact refusal (printerSetRefusal?_of_sibling (inRange.mpr hf) (by rw [hk]; exact siblingRefusal?_of_range h))
    · exact refusal (printerSetRefusal?_of_sibling (inRange.mpr hf)
        (by rw [hk]; exact siblingRefusal?_of_retiring inside other hr retiring))
    · rw [printerSetRefusal?_eq (inRange.mpr hf) (siblingRefusal?_of_selected sibling)]
      exact if_pos ⟨(selectedYes_eq ..).trans colour, slots⟩
  case added =>
    intro f taken hp free colour duplex tray auto restart floor model slots sibling timeout q
    have bytes : yesNos [f.colour, f.duplex, f.largeTray, f.autoReturn, f.restartPermitted] = true := by
      simp [yesNos_iff, colour, duplex, tray, auto, restart]
    exact exec_ok taken rfl (handlePrinterAdd_of_allowed (w := s.work) bytes hp free ⟨floor, model, slots⟩
      (siblingRefusal?_of_allowed sibling))
  case setStored =>
    intro f q taken hp hq runs hb floor model slots sibling chosen q' fitted colour
    have stored : setPrinterFields f q = q' := by
      simp only [setPrinterFields, selectedYes_eq]
      rfl
    have bytes := (yesNos_iff
      (f.colour.toList ++ f.duplex.toList ++ f.largeTray.toList ++ f.autoReturn.toList ++ f.restartPermitted.toList)).mpr hb
    have refusal := printerSetRefusal?_eq (q := q) ((configInRange_selected_iff f).mpr ⟨floor, model, slots⟩)
      (siblingRefusal?_of_selected sibling)
    rw [stored, if_neg (fun ⟨h, other⟩ => other (colour h))] at refusal
    have colours : anyFitted s.toRecords f.printer [.c, .m, .y] = true ↔ fitted .c ∨ fitted .m ∨ fitted .y := by
      simp [anyFitted_iff, fitted]
    have all : anyFitted s.toRecords f.printer [.k, .c, .m, .y] = true ↔ fitted .k ∨ fitted .c ∨ fitted .m ∨ fitted .y := by
      simp [anyFitted_iff, fitted]
    refine ⟨fun h => ?_, fun one group => ?_⟩
    · refine exec_refused taken rfl (handlePrinterSet_of_refusal (w := s.work) bytes hp hq runs (refusal.trans ?_))
      obtain ⟨one, h⟩ | ⟨group, h⟩ := h
      · exact if_pos ⟨one, colours.mpr h⟩
      · exact (if_congr Iff.rfl rfl (if_pos ⟨group, all.mpr h⟩)).trans (ite_self _)
    · have noneOfColours : ¬ (q'.slotCount = 1 ∧ anyFitted s.toRecords f.printer [.c, .m, .y] = true) := by
        rintro ⟨h, any⟩
        obtain ⟨nc, nm, ny⟩ := one h
        exact (colours.mp any).elim nc (·.elim nm ny)
      have noneOfAll : ¬ (q'.modelGroup ≠ q.modelGroup ∧ anyFitted s.toRecords f.printer [.k, .c, .m, .y] = true) := by
        rintro ⟨h, any⟩
        obtain ⟨nk, nc, nm, ny⟩ := group h
        exact (all.mp any).elim nk (·.elim nc (·.elim nm ny))
      have allowed := handlePrinterSet_of_allowed (w := s.work) bytes hp hq runs
        (refusal.trans ((if_neg noneOfColours).trans (if_neg noneOfAll)))
      rw [stored] at allowed
      exact exec_ok taken rfl allowed

/-! ### STATUS_REPORT (R86 to R89, R91, R95) -/

theorem mem_liveFaults_iff (live : CondSet) (c : Condition) :
    c ∈ liveFaults live ↔ c ≠ .paperLow ∧ live.getLsbD (conditionCode c) = true := by
  rw [liveFaults, List.mem_filter]
  refine and_congr_left fun _ => ?_
  cases c <;> simp [faultConditions]

/-- A condition's deadline is the first the list holds for it. -/
theorem qualificationOf?_eq_some_iff {l : List (Condition × Deadline)} {c : Condition} {d : Deadline} :
    qualificationOf? l c = some d ↔ ∃ before after, l = before ++ (c, d) :: after ∧ ∀ e ∈ before, e.1 ≠ c := by
  rw [qualificationOf?, Option.map_eq_some_iff]
  constructor
  · rintro ⟨⟨c', d'⟩, found, rfl⟩
    obtain ⟨same, before, after, parts, others⟩ := List.find?_eq_some_iff_append.mp found
    obtain rfl : c' = c := of_decide_eq_true same
    exact ⟨before, after, parts, fun e he => by simpa using others e he⟩
  · rintro ⟨before, after, parts, others⟩
    exact ⟨(c, d), List.find?_eq_some_iff_append.mpr ⟨decide_eq_true rfl, before, after, parts,
      fun e he => by simpa using others e he⟩, rfl⟩

theorem qualificationOf?_eq_none_iff {l : List (Condition × Deadline)} {c : Condition} :
    qualificationOf? l c = none ↔ ∀ e ∈ l, e.1 ≠ c := by
  simp [qualificationOf?, List.find?_eq_none]

theorem mem_qualify_iff (now : Nat) (ptb : Ptb) (held : List (Condition × Deadline)) (live : CondSet) (c : Condition)
    (d : Deadline) :
    (c, d) ∈ qualify now ptb held live ↔
      c ∈ liveFaults live ∧ (qualificationOf? held c).getD (arm now (ptb.qualificationTime c)) = d := by
  simp only [qualify, List.mem_map, Prod.mk.injEq]
  constructor
  · rintro ⟨c', hc, rfl, hd⟩
    exact ⟨hc, hd⟩
  · rintro ⟨hc, hd⟩
    exact ⟨c, hc, rfl, hd⟩

/-- The record of a report, as the steps of R87 leave it. -/
theorem recordReport_eq (now : Nat) (live : CondSet) (q : Printer) :
    recordReport now live q =
      { q with
        present := true
        absence := if q.present then q.absence else none
        heartbeat := if q.state.heartbeatArmed then some (armed now q.heartbeatTimeout) else q.heartbeat
        live, latched := q.latched ||| live } := by
  unfold recordReport
  cases h : q.state.heartbeatArmed <;> simp only [h] <;> rfl

section
variable {now : Nat} {ptb : Ptb} {p : Printer}

theorem reportedState_of_absent (h : p.state = .absent) :
    reportedState now ptb p = if clean p.live then toInService now p else toQualifying now ptb p := by
  simp only [reportedState, h]

theorem reportedState_of_inService (h : p.state = .inService) :
    reportedState now ptb p = if clean p.live then p else toQualifying now ptb p := by
  simp only [reportedState, h]

theorem reportedState_of_qualifying (h : p.state = .qualifying) :
    reportedState now ptb p = if clean p.live then toInService now p else toQualifying now ptb p := by
  simp only [reportedState, h]

theorem reportedState_of_restarting (h : p.state = .restarting) :
    reportedState now ptb p = if clean p.live then toInService now (armHeartbeat now p) else p := by
  simp only [reportedState, h]

theorem reportedState_of_out {cause : OutCause} (h : p.state = .outOfService cause) :
    reportedState now ptb p = if returnsByReport cause p then toInService now p else p := by
  simp only [reportedState, h]

theorem reportedState_of_retiring {accepted : Nat} (h : p.state = .retiring accepted) : reportedState now ptb p = p := by
  simp only [reportedState, h]

theorem returnsByReport_iff (cause : OutCause) (p : Printer) :
    returnsByReport cause p = true ↔ cause ≠ .byRequest ∧ p.autoReturn = true ∧ clean p.live = true := by
  simp only [returnsByReport, Bool.and_eq_true, decide_eq_true_eq, and_assoc]

end

section
variable {i : Nat} {live : CondSet} {readings : List Reading} {q : Printer} {w : Work}

theorem handleStatusReport_of_examined {conditions : Nat} {codes : List Nat} (hi : i < 96) (hc : conditions < 128)
    (hq : w.ptb.printers.lookup i = some q) (he : examined? q.slotCount codes = some readings) :
    handleStatusReport i conditions codes w = takeReport i (BitVec.ofNat 7 conditions) readings q w := by
  simp only [handleStatusReport, Refusals.condSet?_of_lt hc, if_neg (inPrinters hi), hq, he]

/-- What a report is told to leave: the final record, and its reply. -/
def reported (i : Nat) (q final : Printer) (w : Work) : Work × Answer :=
  (finishChange i q final w).ok
    [u8 final.state.code, flag final.present, compound (causeParts final.state), condSetField final.live,
      condSetField final.latched, opt deadlineField final.heartbeat]

theorem takeReport_of_running (h : ∀ accepted, q.state ≠ .retiring accepted) :
    takeReport i live readings q w =
      reported i q (reportedState w.now w.ptb (recordReport w.now live q))
        (takeReadings i readings ((if q.present then w else endAbsence i w).setPrinter i (recordReport w.now live q))) := by
  unfold takeReport
  cases hs : q.state with
  | retiring accepted => exact absurd hs (h accepted)
  | _ => rfl

theorem takeReport_of_retiring {accepted : Nat} (h : q.state = .retiring accepted) :
    takeReport i live readings q w =
      reported i q (reportedState w.now w.ptb (recordReport w.now live q))
        ((if q.present then w else endAbsence i w).setPrinter i (recordReport w.now live q)) := by
  unfold takeReport
  rw [h]
  rfl

end

/-- Settles O46: the record of a report, and then its move by the state and the live set. -/
theorem statusReported : Obligations.StatusReported := by
  refine ⟨?reports, fun now ptb held live c d => ?_⟩
  case reports =>
    intro s tag i conditions readings q examined taken hi hc hq he now live heard recorded serving qualifying start told read
    have record : recordReport now live q = recorded := recordReport_eq now live q
    have work := handleStatusReport_of_examined (w := s.work) hi hc hq he
    have tells {final : Printer} {w : Work} (hf : reportedState now s.ptb recorded = final)
        (report : handleStatusReport i conditions readings s.work = reported i q (reportedState now s.ptb recorded) w)
        (fields : final.present = true ∧ final.live = live ∧ final.latched = q.latched ||| live) : told final w := by
      obtain ⟨present, hl, latched⟩ := fields
      rw [hf, reported, present, hl, latched] at report
      exact exec_ok taken rfl report
    have runs {final : Printer} (h : ∀ accepted, q.state ≠ .retiring accepted)
        (hf : reportedState now s.ptb recorded = final)
        (fields : final.present = true ∧ final.live = live ∧ final.latched = q.latched ||| live) : told final read := by
      have report : handleStatusReport i conditions readings s.work =
          reported i q (reportedState now s.ptb (recordReport now live q))
            (takeReadings i examined ((if q.present then s.work else endAbsence i s.work).setPrinter i (recordReport now live q))) :=
        work.trans (takeReport_of_running h)
      rw [record] at report
      exact tells hf report fields
    have away {state : ServiceState} (h : q.state = state) (ne : ∀ accepted, state ≠ .retiring accepted) (accepted : Nat) :
        q.state ≠ .retiring accepted := h ▸ ne accepted
    refine ⟨fun hclean => ⟨?_, fun h => ?_, fun h => ?_, fun cause h other auto => ?_, fun cause h stays => ?_⟩,
      fun faulty => ⟨?_, fun h => ?_, fun cause h => ?_⟩, fun accepted h => ?_⟩
    · rintro (h | h)
      · exact runs (away h (by simp)) ((reportedState_of_absent (p := recorded) h).trans (if_pos hclean)) ⟨rfl, rfl, rfl⟩
      · exact runs (away h (by simp)) ((reportedState_of_qualifying (p := recorded) h).trans (if_pos hclean)) ⟨rfl, rfl, rfl⟩
    · exact runs (away h (by simp)) ((reportedState_of_inService (p := recorded) h).trans (if_pos hclean)) ⟨rfl, rfl, rfl⟩
    · exact runs (away h (by simp)) ((reportedState_of_restarting (p := recorded) h).trans (if_pos hclean)) ⟨rfl, rfl, rfl⟩
    · refine runs (away h (by simp)) ((reportedState_of_out (p := recorded) h).trans (if_pos ?_)) ⟨rfl, rfl, rfl⟩
      exact (returnsByReport_iff ..).mpr ⟨other, auto, hclean⟩
    · refine runs (away h (by simp)) ((reportedState_of_out (p := recorded) h).trans (if_neg fun returns => ?_)) ⟨rfl, rfl, rfl⟩
      obtain ⟨other, auto, -⟩ := (returnsByReport_iff ..).mp returns
      exact stays.elim other fun no => absurd (auto.symm.trans no) (by simp)
    · rintro (h | h | h)
      · exact runs (away h (by simp)) ((reportedState_of_absent (p := recorded) h).trans (if_neg (by simp [faulty, recorded])))
          ⟨rfl, rfl, rfl⟩
      · exact runs (away h (by simp)) ((reportedState_of_inService (p := recorded) h).trans (if_neg (by simp [faulty, recorded])))
          ⟨rfl, rfl, rfl⟩
      · exact runs (away h (by simp)) ((reportedState_of_qualifying (p := recorded) h).trans (if_neg (by simp [faulty, recorded])))
          ⟨rfl, rfl, rfl⟩
    · exact runs (away h (by simp)) ((reportedState_of_restarting (p := recorded) h).trans (if_neg (by simp [faulty, recorded])))
        ⟨rfl, rfl, rfl⟩
    · refine runs (away h (by simp)) ((reportedState_of_out (p := recorded) h).trans (if_neg fun returns => ?_)) ⟨rfl, rfl, rfl⟩
      obtain ⟨-, -, hclean⟩ := (returnsByReport_iff ..).mp returns
      exact absurd (hclean.symm.trans faulty) (by simp)
    · have report : handleStatusReport i conditions readings s.work =
          reported i q (reportedState now s.ptb (recordReport now live q))
            ((if q.present then s.work else endAbsence i s.work).setPrinter i (recordReport now live q)) :=
        work.trans (takeReport_of_retiring h)
      rw [record] at report
      exact tells (reportedState_of_retiring (p := recorded) h) report ⟨rfl, rfl, rfl⟩
  · rw [mem_qualify_iff, mem_liveFaults_iff, and_assoc, ← qualificationOf?_eq_some_iff, ← qualificationOf?_eq_none_iff]
    refine and_congr_right fun _ => and_congr_right fun _ => ?_
    cases qualificationOf? held c with
    | none => simp [eq_comm, arm_eq_armed]
    | some d' => simp

/-! ### CONDITIONS_CLEAR (R99) -/

/-- The conditions that leave the latched set are those named that are not live. -/
theorem getLsbD_cleared (latched live : CondSet) (conditions b : Nat) :
    (latched &&& ~~~(BitVec.ofNat 7 conditions &&& ~~~live)).getLsbD b =
      (latched.getLsbD b && !(conditions.testBit b && !live.getLsbD b)) := by
  by_cases h : b < 7
  · simp only [BitVec.getLsbD_and, BitVec.getLsbD_not, BitVec.getLsbD_ofNat, h, decide_true, Bool.true_and]
  · rw [BitVec.getLsbD_of_ge _ _ (Nat.not_lt.mp h), BitVec.getLsbD_of_ge latched _ (Nat.not_lt.mp h), Bool.false_and]

theorem getLsbD_stayed (live : CondSet) (conditions b : Nat) :
    (BitVec.ofNat 7 conditions &&& live).getLsbD b = (conditions.testBit b && live.getLsbD b) := by
  by_cases h : b < 7
  · simp only [BitVec.getLsbD_and, BitVec.getLsbD_ofNat, h, decide_true, Bool.true_and]
  · rw [BitVec.getLsbD_of_ge _ _ (Nat.not_lt.mp h), BitVec.getLsbD_of_ge live _ (Nat.not_lt.mp h), Bool.and_false]

/-- Settles O47. -/
theorem conditionsCleared : Obligations.ConditionsCleared := by
  intro s tag i conditions taken
  refine ⟨fun h => exec_refused taken rfl ?_, fun hi hc free => exec_refused taken rfl ?_, fun q hi hc hq => ?_⟩
  · show handleConditionsClear i conditions s.work = _
    unfold handleConditionsClear
    split
    · rfl
    · rename_i named hn
      refine if_pos (h.resolve_right fun large => ?_)
      rw [condSet?, if_neg (Nat.not_lt.mpr large)] at hn
      cases hn
  · show handleConditionsClear i conditions s.work = _
    simp only [handleConditionsClear, Refusals.condSet?_of_lt hc, if_neg (inPrinters hi), State.work_toRecords, free]
  · refine ⟨q.latched &&& ~~~(BitVec.ofNat 7 conditions &&& ~~~q.live), BitVec.ofNat 7 conditions &&& q.live,
      exec_ok taken rfl ?_, fun b => ⟨getLsbD_cleared .., getLsbD_stayed ..⟩⟩
    show handleConditionsClear i conditions s.work = _
    simp only [handleConditionsClear, Refusals.condSet?_of_lt hc, if_neg (inPrinters hi), State.work_toRecords, hq]
    rfl

/-! ### SERVICE_WITHDRAW and SERVICE_RETURN (R96, R97) -/

section
variable {w : Work} {i : Nat} {q : Printer} (hi : i < 96) (hq : w.ptb.printers.lookup i = some q)
include hi hq

theorem handleServiceWithdraw_of_lookup {q' : Printer} (h : withdrawnPrinter? w.now q = some q') :
    handleServiceWithdraw i w = (finishChange i q q' w).ok [u8 q.state.code, compound (causeParts q.state)] := by
  simp only [handleServiceWithdraw, if_neg (inPrinters hi), hq, h]

theorem handleServiceWithdraw_of_retiring {accepted : Nat} (h : q.state = .retiring accepted) :
    handleServiceWithdraw i w = w.refuse .retiring := by
  simp only [handleServiceWithdraw, if_neg (inPrinters hi), hq, withdrawnPrinter?, h]

theorem handleServiceReturn_of_out {cause : OutCause} {q' : Printer} (h : q.state = .outOfService cause)
    (hr : returnedPrinter w.now w.ptb q = q') :
    handleServiceReturn i w = (finishChange i q q' w).ok [u8 q'.state.code] := by
  subst hr
  simp only [handleServiceReturn, if_neg (inPrinters hi), hq, h]

theorem handleServiceReturn_of_retiring {accepted : Nat} (h : q.state = .retiring accepted) :
    handleServiceReturn i w = w.refuse .retiring := by
  simp only [handleServiceReturn, if_neg (inPrinters hi), hq, h]

theorem handleServiceReturn_of_standing
    (h : q.state = .absent ∨ q.state = .inService ∨ q.state = .qualifying ∨ q.state = .restarting) :
    handleServiceReturn i w = w.refuse .state := by
  obtain h | h | h | h := h <;> simp only [handleServiceReturn, if_neg (inPrinters hi), hq, h]

end

/-! ### What a change of a printer's health brings (R78, R98) -/

/-- PRINTER_STATE of a change: raised where the state or presence changed (R98). -/
def toldState (i : Nat) (old new : Printer) (w : Work) : Work :=
  if old.state = new.state ∧ old.present = new.present then w.setPrinter i new
  else (w.setPrinter i new).raise .printerState i (printerStateFields i old.state.code new)

theorem changePrinter_eq (i : Nat) (old new : Printer) (w : Work) :
    changePrinter i old new w = tellNeighbours i old.state new.state (toldState i old new w) := by
  rw [toldState, ← raisePrinterState_of_lookup (w := w.setPrinter i new) (Table.lookup_put_self _ _ _)]
  rfl

theorem serving_iff (s : ServiceState) : s.serving = true ↔ s = .inService ∨ s = .qualifying := by
  cases s <;> simp [ServiceState.serving]

section
variable {i : Nat} {old new : ServiceState} (w : Work)

theorem tellNeighbours_of_same (h : old = new) : tellNeighbours i old new w = w := if_pos h

/-- A serving printer becomes ABSENT or RESTARTING (R78). -/
theorem tellNeighbours_of_stop (serving : old = .inService ∨ old = .qualifying) (h : new = .absent ∨ new = .restarting) :
    tellNeighbours i old new w = returnReleasing i none (closeVisit i .service w) := by
  obtain rfl | rfl := serving <;> obtain rfl | rfl := h <;> rfl

/-- A printer comes to serve, from elsewhere than OUT_OF_SERVICE. -/
theorem tellNeighbours_of_serve (h : old = .absent ∨ (old = .inService ∨ old = .qualifying) ∨ old = .restarting)
    (serves : new = .inService ∨ new = .qualifying) : tellNeighbours i old new w = w := by
  obtain rfl | (rfl | rfl) | rfl := h <;> obtain rfl | rfl := serves <;> rfl

/-- What an entry into OUT_OF_SERVICE brings to HQ and COU: the reroute pass, and a FAULT or RESTART cause (R51, R143). -/
def entered (i : Nat) : OutCause → Work → Work
  | .fault c, w => arise i (.fault c) (reroutePass i w)
  | .restartFailed, w => arise i .restart (reroutePass i w)
  | .byRequest, w => reroutePass i w

theorem tellNeighbours_of_out {cause : OutCause} (serving : old = .inService ∨ old = .qualifying) :
    tellNeighbours i old (.outOfService cause) w =
      entered i cause (returnReleasing i (some i) (closeVisit i .service w)) := by
  obtain rfl | rfl := serving <;> cases cause <;> rfl

theorem tellNeighbours_of_out_idle {cause : OutCause} (idle : old = .absent ∨ old = .restarting) :
    tellNeighbours i old (.outOfService cause) w = entered i cause w := by
  obtain rfl | rfl := idle <;> cases cause <;> rfl

/-- A withdrawal of a printer that is OUT_OF_SERVICE already ends its cause (R149). -/
theorem tellNeighbours_of_withdrawn {before : OutCause} (h : before ≠ .byRequest) :
    tellNeighbours i (.outOfService before) (.outOfService .byRequest) w = endFault i .withdrawn w := by
  cases before with
  | byRequest => exact absurd rfl h
  | _ => rfl

/-- A printer leaves OUT_OF_SERVICE: its cause ends (R149). -/
theorem tellNeighbours_of_left {before : OutCause} (h : new = .absent ∨ new = .inService ∨ new = .qualifying) :
    tellNeighbours i (.outOfService before) new w = endFault i .cleared w := by
  obtain rfl | rfl | rfl := h <;> cases before <;> rfl

end

/-! ### The reroute pass (R50 to R52) -/

theorem put_append {α : Type} {before after : Table α} {n : Nat} {v v' : α} (h : ∀ e ∈ before, e.1 < n) :
    Table.put (before ++ (n, v) :: after) n v' = before ++ (n, v') :: after := by
  induction before with
  | nil => simp [Table.put]
  | cons e before ih =>
    obtain ⟨k, u⟩ := e
    have lt : k < n := h _ (List.mem_cons_self ..)
    rw [List.cons_append, Table.put, if_neg (by omega), if_neg (by omega), ih fun e he => h e (List.mem_cons_of_mem _ he)]
    rfl

theorem lookup_append {α : Type} {before after : Table α} {n : Nat} {v : α} (h : ∀ e ∈ before, e.1 < n) :
    Table.lookup (before ++ (n, v) :: after) n = some v := by
  induction before with
  | nil => simp [Table.lookup]
  | cons e before ih =>
    obtain ⟨k, u⟩ := e
    have lt : k < n := h _ (List.mem_cons_self ..)
    rw [List.cons_append, Table.lookup, if_neg (by omega)]
    exact ih fun e he => h e (List.mem_cons_of_mem _ he)

/-- A HELD job pinned to the printer and not rerouted before moves to a sibling that is IN_SERVICE and capable (R50). -/
def moves (i : Nat) (sibling : Printer) (j : Job) : Bool :=
  decide (j.stage = .held ∧ j.target = .printer i ∧ j.reroutedFrom = none
    ∧ sibling.state = .inService ∧ (0 < j.colour → sibling.colourCapable = true)
    ∧ (j.size = .large → sibling.largeTray = true) ∧ (j.duplex = true → sibling.duplex = true))

/-- A job that moves, at its sibling. -/
def moved (i k : Nat) (j : Job) : Job := { j with target := .printer k, reroutedFrom := some i }

/-- JOB_REROUTED of a job that moves (R52). -/
def movedNotice (i k : Nat) (e : Nat × Job) : Raised :=
  { kind := .jobRerouted, key := e.1, body := [u16 e.1, u16 e.2.owner, compound (targetParts (.printer k)), u8 i] }

theorem capable_iff (j : Job) (sibling : Printer) :
    capable j sibling = true ↔
      (0 < j.colour → sibling.colourCapable = true) ∧ (j.size = .large → sibling.largeTray = true)
        ∧ (j.duplex = true → sibling.duplex = true) := by
  simp only [capable, Bool.and_eq_true, Bool.or_eq_true, beq_iff_eq, decide_eq_true_eq, Bool.not_eq_true', and_assoc,
    Nat.pos_iff_ne_zero, imp_iff_not_or, not_not, ne_eq, Bool.not_eq_true]

section
variable {r : Records} {i k : Nat} {q sibling : Printer} (hq : r.ptb.printers.lookup i = some q)
include hq

theorem rerouteTo?_of_no_sibling (h : q.sibling = none ∨ ∃ k, q.sibling = some k ∧ r.ptb.printers.lookup k = none) (j : Job) :
    rerouteTo? r i j = none := by
  unfold rerouteTo?
  split
  · rfl
  · obtain h | ⟨k, hk, free⟩ := h
    · simp only [hq, h]
    · simp only [hq, hk, free]

theorem rerouteTo?_of_sibling (hs : q.sibling = some k) (hk : r.ptb.printers.lookup k = some sibling) (j : Job) :
    rerouteTo? r i j = if moves i sibling j then some k else none := by
  by_cases pinned : j.stage = .held ∧ j.target = .printer i ∧ j.reroutedFrom = none
  · obtain ⟨held, target, fresh⟩ := pinned
    have test : ¬ (j.stage ≠ .held ∨ j.target ≠ .printer i ∨ j.reroutedFrom ≠ none) := by simp [held, target, fresh]
    have same : moves i sibling j = true ↔ sibling.state = .inService ∧ capable j sibling = true := by
      simp only [moves, decide_eq_true_eq, held, target, fresh, true_and, capable_iff]
    simp only [rerouteTo?, if_neg test, hq, hs, hk, same]
  · have test : j.stage ≠ .held ∨ j.target ≠ .printer i ∨ j.reroutedFrom ≠ none := by tauto
    have stays : ¬ moves i sibling j = true := by
      intro h
      obtain ⟨held, target, fresh, -⟩ := of_decide_eq_true h
      exact pinned ⟨held, target, fresh⟩
    rw [if_neg stays]
    exact if_pos test

end

/-- The pass over the rest of the table, the jobs before it taken already. -/
theorem foldl_rerouteJob {i k : Nat} {q sibling : Printer} (hs : q.sibling = some k) (rest : Table Job) :
    ∀ (before : Table Job) (w : Work), w.ptb.printers.lookup i = some q → w.ptb.printers.lookup k = some sibling →
      w.hq.jobs = before ++ rest → (before.map (·.1) ++ rest.map (·.1)).Pairwise (· < ·) →
      (rest.map (·.1)).foldl (rerouteJob i) w =
        { w with
          hq := { w.hq with
            jobs := before ++ rest.map (fun e => (e.1, if moves i sibling e.2 then moved i k e.2 else e.2)) }
          raised := w.raised ++ (rest.filter (fun e => moves i sibling e.2)).map (movedNotice i k) } := by
  induction rest with
  | nil =>
    intro before w _ _ jobs _
    simp only [List.map_nil, List.foldl_nil, List.filter_nil, List.append_nil] at jobs ⊢
    rw [← jobs]
  | cons e rest ih =>
    obtain ⟨n, j⟩ := e
    intro before w hq hk jobs rising
    have lower : ∀ e ∈ before, e.1 < n := fun e he =>
      (List.pairwise_append.mp rising).2.2 e.1 (List.mem_map_of_mem he) n (List.mem_cons_self ..)
    have found : w.hq.jobs.lookup n = some j := by rw [jobs]; exact lookup_append lower
    rw [List.map_cons, List.foldl_cons, List.map_cons, List.filter_cons]
    have target := rerouteTo?_of_sibling (r := w.toRecords) hq hs hk j
    by_cases goes : moves i sibling j = true
    · have step : rerouteJob i w n =
          { w with hq := { w.hq with jobs := before ++ (n, moved i k j) :: rest }, raised := w.raised ++ [movedNotice i k (n, j)] } := by
        rw [if_pos goes] at target
        simp only [rerouteJob, found, target]
        rw [Work.setJob, jobs, put_append lower]
        rfl
      have later := ih (before ++ [(n, moved i k j)]) (rerouteJob i w n) (by rw [step]; exact hq) (by rw [step]; exact hk)
        (by rw [step, List.append_assoc]; rfl) (by simpa using rising)
      rw [later, step]
      simp only [goes, if_true, List.append_assoc, List.map_cons, List.singleton_append]
    · have step : rerouteJob i w n = w := by
        rw [if_neg goes] at target
        simp only [rerouteJob, found, target]
      rw [step, ih (before ++ [(n, j)]) w hq hk (by rw [jobs, List.append_assoc]; rfl) (by simpa using rising)]
      simp only [goes, List.append_assoc, List.singleton_append]
      rfl

theorem foldl_of_fixed {α β : Type} {f : β → α → β} {b : β} (l : List α) (h : ∀ x, f b x = b) : l.foldl f b = b := by
  induction l with
  | nil => rfl
  | cons x l ih => rw [List.foldl_cons, h, ih]

theorem reroutePass_of_no_sibling {w : Work} {i : Nat} {q : Printer} (hq : w.ptb.printers.lookup i = some q)
    (h : q.sibling = none ∨ ∃ k, q.sibling = some k ∧ w.ptb.printers.lookup k = none) : reroutePass i w = w := by
  refine foldl_of_fixed _ fun n => ?_
  unfold rerouteJob
  split
  · rfl
  · rename_i j hj
    simp only [rerouteTo?_of_no_sibling hq h j]

theorem reroutePass_of_sibling {w : Work} {i k : Nat} {q sibling : Printer} (sound : TablesSound w.toRecords)
    (hq : w.ptb.printers.lookup i = some q) (hs : q.sibling = some k) (hk : w.ptb.printers.lookup k = some sibling) :
    reroutePass i w =
      { w with
        hq := { w.hq with jobs := w.hq.jobs.map (fun e => (e.1, if moves i sibling e.2 then moved i k e.2 else e.2)) }
        raised := w.raised ++ (w.hq.jobs.filter (fun e => moves i sibling e.2)).map (movedNotice i k) } := by
  have rising : (w.hq.jobs.map (·.1)).Pairwise (· < ·) := List.pairwise_map.mpr sound.jobs.rising
  exact foldl_rerouteJob hs w.hq.jobs [] w hq hk rfl rising

/-- Settles O48. -/
theorem withdrawnAndReturned : Obligations.WithdrawnAndReturned := by
  refine ⟨?requests, ?changes, fun w i q sound hq => ⟨reroutePass_of_no_sibling hq, ?pass⟩⟩
  case requests =>
    intro s tag i q hi hq out
    refine ⟨?withdraw, ?return_⟩
    case withdraw =>
      intro taken withdrawn
      have leaves {q' : Printer} (h : withdrawnPrinter? s.fck.uptime q = some q') : withdrawn q' :=
        exec_ok taken rfl (handleServiceWithdraw_of_lookup (w := s.work) hi hq h)
      refine ⟨fun h => leaves ?_, fun h => leaves ?_, fun cause h => leaves ?_, fun accepted h => ?_⟩
      · obtain h | h | h := h <;> simp only [withdrawnPrinter?, h] <;> rfl
      · simp only [withdrawnPrinter?, h]
        rfl
      · simp only [withdrawnPrinter?, h]
      · exact exec_refused taken rfl (handleServiceWithdraw_of_retiring (w := s.work) hi hq h)
    case return_ =>
      intro taken returned
      have comes {q' : Printer} {cause : OutCause} (h : q.state = .outOfService cause)
          (hr : returnedPrinter s.fck.uptime s.ptb q = q') : returned q' :=
        exec_ok taken rfl (handleServiceReturn_of_out (w := s.work) hi hq h hr)
      refine ⟨fun cause h => ⟨fun gone => comes h ?_, fun present hclean => comes h ?_, fun present faulty => comes h ?_⟩,
        fun h => ?_, fun accepted h => ?_⟩
      · exact if_pos (by rw [gone]; rfl)
      · exact (if_neg (by rw [present]; decide)).trans (if_pos hclean)
      · exact (if_neg (by rw [present]; decide)).trans (if_neg (by rw [faulty]; decide))
      · exact exec_refused taken rfl (handleServiceReturn_of_standing (w := s.work) hi hq h)
      · exact exec_refused taken rfl (handleServiceReturn_of_retiring (w := s.work) hi hq h)
  case changes =>
    intro w i old new told serving stands ended
    have raised : toldState i old new w = told := rfl
    have change := changePrinter_eq i old new w
    rw [raised] at change
    have ends (reason : ResolveReason) (w : Work) : endFault i reason w = ended reason w := by
      have stand (k : CauseKind) : k.outOfService = stands k := by cases k <;> rfl
      have tickets : faultTicket i = fun t => t.printer == i && stands t.kind :=
        funext fun t => congrArg (t.printer == i && ·) (stand t.kind)
      have owed : faultOwed i = fun o => o.printer == i && stands o.kind :=
        funext fun o => congrArg (o.printer == i && ·) (stand o.kind)
      rw [endFault, tickets, owed]
    refine ⟨rfl, fun h => change.trans (tellNeighbours_of_same _ h), fun serves stops => change.trans
      (tellNeighbours_of_stop _ serves stops), fun h serves => change.trans (tellNeighbours_of_serve _ h serves), ?out,
      fun before h left => ?_⟩
    case out =>
      intro cause h enters
      have enters_eq (w : Work) : enters w = entered i cause w := by cases cause <;> rfl
      refine ⟨fun serves => ?_, fun idle => ?_, fun before hb other again => ?_⟩
      · rw [change, h, tellNeighbours_of_out _ serves, enters_eq]
      · rw [change, h, tellNeighbours_of_out_idle _ idle, enters_eq]
      · rw [change, h, hb, again, tellNeighbours_of_withdrawn _ other, ends]
    · rw [change, h, tellNeighbours_of_left _ left, ends]
  case pass =>
    intro k sibling hs hk moves
    exact reroutePass_of_sibling sound hq hs hk

/-! ### A printer's deadlines (R90 to R94, R105) -/

/-- A deadline of a printer is taken where it has been reached, and the printer holds no earlier one that has. -/
theorem due_iff (q : Printer) (now : Nat) (d : Deadline) :
    q.due now d = true ↔ fallen now d ∧ ∀ e ∈ q.deadlines, fallen now e → d.value ≤ e.value := by
  simp only [Printer.due, Bool.and_eq_true, List.all_eq_true, Bool.or_eq_true, Bool.not_eq_true', decide_eq_true_eq,
    ← reached_iff_fallen]
  refine and_congr_right fun _ => forall₂_congr fun e _ => ?_
  cases e.reached now <;> simp

section
variable {w : Work} {i : Nat} {q : Printer} {d : Deadline} (hq : w.ptb.printers.lookup i = some q)
include hq

section
variable {c : Condition} (hd : qualificationOf? q.qualification c = some d)
include hd

theorem qualificationFalls_of_due (qualifying : q.state = .qualifying) (due : q.due w.now d = true) : qualificationFalls i c w = verdict i c q w := by
  simp only [qualificationFalls, hq]
  exact if_pos ⟨qualifying, by rw [hd]; exact due⟩

theorem qualificationFalls_of_not_due (h : ¬ q.due w.now d = true) : qualificationFalls i c w = w := by
  simp only [qualificationFalls, hq]
  refine if_neg fun ⟨_, due⟩ => h ?_
  rw [hd] at due
  exact due

end

theorem restartFalls_of_due (restarting : q.state = .restarting) (hd : q.restart = some d) (due : q.due w.now d = true) :
    restartFalls i w = finishChange i q (armHeartbeat w.now (toOutOfService .restartFailed q)) w := by
  simp only [restartFalls, hq]
  exact if_pos ⟨restarting, by rw [hd]; exact due⟩

theorem restartCreditFalls_of_due (hd : q.restartCredit = some d) (due : q.due w.now d = true) :
    restartCreditFalls i w = w.setPrinter i { q with restartUsed := false, restartCredit := none } := by
  simp only [restartCreditFalls, hq]
  exact if_pos (by rw [hd]; exact due)

theorem heartbeatFalls_of_due (hd : q.heartbeat = some d) (due : q.due w.now d = true) :
    heartbeatFalls i w = finishChange i q (silentPrinter w.now w.ptb q) w := by
  simp only [heartbeatFalls, hq]
  exact if_pos (by rw [hd]; exact due)

variable (hd : q.absence = some d)
include hd

theorem absenceFalls_of_not_due (h : ¬ q.due w.now d = true) : absenceFalls i w = w := by
  simp only [absenceFalls, hq]
  refine if_neg fun due => h ?_
  rw [hd] at due
  exact due

variable (due : q.due w.now d = true)
include due

theorem absenceFalls_of_withdrawn (h : q.state = .outOfService .byRequest) :
    absenceFalls i w = w.setPrinter i { q with absence := none } := by
  simp only [absenceFalls, hq]
  rw [if_pos (by rw [hd]; exact due)]
  exact if_pos h

theorem absenceFalls_of_missed (h : q.state ≠ .outOfService .byRequest) :
    absenceFalls i w = endHandling (arise i .absence (w.setPrinter i { q with absence := none })) := by
  simp only [absenceFalls, hq]
  rw [if_pos (by rw [hd]; exact due)]
  exact if_neg h

end

/-- Settles O49: each kind of deadline by its own fall. -/
theorem printerDeadlines : Obligations.PrinterDeadlines := by
  intro s i q power hq now falls out
  have due (d : Deadline) : q.due s.work.now d = true ↔ falls d := due_iff q now d
  refine ⟨fun c d qualifying hd => ⟨fun waits => ?_, fun fall h => ?_, ?restart⟩, fun d restarting hd fall => ?_,
    fun d hd fall => ?_, ?heartbeat, ?absence⟩
  case restart =>
    intro fall cures permitted unused deadline
    refine exec_passed power rfl
      ((qualificationFalls_of_due (w := s.work) hq hd qualifying ((due d).mpr fall)).trans ?_)
    exact if_pos ⟨cures, permitted, by rw [unused]; rfl⟩
  case heartbeat =>
    intro d hd fall silent
    have fell := heartbeatFalls_of_due (w := s.work) hq hd ((due d).mpr fall)
    refine ⟨fun serves => exec_passed power rfl (fell.trans (congrArg (finishChange i q · s.work) ?_)),
      fun notIn notQualifying => exec_passed power rfl (fell.trans (congrArg (finishChange i q · s.work) ?_))⟩
    · exact if_pos ((serving_iff _).mpr serves)
    · exact if_neg fun serves => ((serving_iff _).mp serves).elim notIn notQualifying
  case absence =>
    intro d hd w
    exact ⟨fun fall h => exec_passed power rfl (absenceFalls_of_withdrawn (w := s.work) hq hd ((due d).mpr fall) h),
      fun fall h => exec_passed power rfl (absenceFalls_of_missed (w := s.work) hq hd ((due d).mpr fall) h),
      fun waits => exec_passed power rfl (absenceFalls_of_not_due (w := s.work) hq hd (mt (due d).mp waits))⟩
  · exact exec_passed power rfl (qualificationFalls_of_not_due (w := s.work) hq hd (mt (due d).mp waits))
  · refine exec_passed power rfl
      ((qualificationFalls_of_due (w := s.work) hq hd qualifying ((due d).mpr fall)).trans (if_neg ?_))
    rintro ⟨cures, permitted, unused⟩
    rw [cures, permitted] at h
    rw [Bool.not_eq_true'] at unused
    rw [unused] at h
    simp at h
  · exact exec_passed power rfl (restartFalls_of_due (w := s.work) hq restarting hd ((due d).mpr fall))
  · exact exec_passed power rfl (restartCreditFalls_of_due (w := s.work) hq hd ((due d).mpr fall))

end Sys2Proof.Printers
end

section
/-! PROOF. What the operations on units and tickets leave: SPU's types, COU's records, the notices and the list of types that are
due change alone, and no type becomes FREE. And what each of these operations is in each case (07 7.3, 08). -/

namespace Sys2Proof.Laws

open Sys2Proof.Machine Sys2Proof.Safety

/-- The second work differs from the first in the types' reservation lists, COU's records and what is due, and has further
notices raised, none of them START. -/
structure UnitsWorked (w v : Work) : Prop where
  frame : ∃ types cou new due, v = { w with spu := { w.spu with types }, cou, raised := w.raised ++ new, due }
    ∧ ∀ r ∈ new, r.kind ≠ .start
  types : ∀ i, ∃ l, v.spu.types.lookup i = (w.spu.types.lookup i).map (fun t => { t with reservations := l })

theorem same_reservations (w : Work) (i : Nat) :
    ∃ l, w.spu.types.lookup i = (w.spu.types.lookup i).map (fun t => { t with reservations := l }) := by
  cases h : w.spu.types.lookup i with
  | none => exact ⟨[], rfl⟩
  | some t => exact ⟨t.reservations, rfl⟩

/-- Only COU's records change. -/
theorem UnitsWorked.of_cou (w : Work) (cou : Cou) : UnitsWorked w { w with cou } :=
  ⟨⟨w.spu.types, cou, [], w.due, by rw [List.append_nil], by simp⟩, same_reservations w⟩

theorem UnitsWorked.refl (w : Work) : UnitsWorked w w := .of_cou w w.cou

/-- A notice is raised. -/
theorem UnitsWorked.of_raise (w : Work) {k : NoticeKind} (h : k ≠ .start) (key : Nat) (body : List Field) :
    UnitsWorked w (w.raise k key body) :=
  ⟨⟨w.spu.types, w.cou, [⟨k, key, body⟩], w.due, rfl, fun _ hr => List.mem_singleton.mp hr ▸ h⟩, same_reservations w⟩

theorem UnitsWorked.trans {u v w : Work} (h : UnitsWorked u v) (k : UnitsWorked v w) : UnitsWorked u w := by
  constructor
  · obtain ⟨types, cou, new, due, rfl, quiet⟩ := h.frame
    obtain ⟨types', cou', new', due', rfl, quiet'⟩ := k.frame
    refine ⟨types', cou', new ++ new', due', by rw [← List.append_assoc], fun r hr => ?_⟩
    exact (List.mem_append.mp hr).elim (quiet r) (quiet' r)
  · intro i
    obtain ⟨l, hl⟩ := h.types i
    obtain ⟨l', hl'⟩ := k.types i
    exact ⟨l', by rw [hl', hl, Option.map_map]; rfl⟩

theorem UnitsWorked.foldl {β : Type} {f : Work → β → Work} (h : ∀ w x, UnitsWorked w (f w x)) (l : List β) (w : Work) :
    UnitsWorked w (l.foldl f w) := by
  induction l generalizing w with
  | nil => exact .refl w
  | cons x rest ih => exact (h w x).trans (ih _)

theorem unitsWorked_setType {w : Work} {i : Nat} {t : SupplyType} (h : w.spu.types.lookup i = some t) (l : List Nat) :
    UnitsWorked w (w.setType i { t with reservations := l }) := by
  refine ⟨⟨_, w.cou, [], w.due, by rw [List.append_nil]; rfl, by simp⟩, fun j => ?_⟩
  rw [Work.setType_types, Table.lookup_put]
  split
  · subst j; exact ⟨l, by rw [h]; rfl⟩
  · exact same_reservations w j

theorem unitsWorked_putTicket (t : Ticket) (w : Work) : UnitsWorked w (putTicket t w) := .of_cou w _

theorem unitsWorked_raiseDispatch (t : Ticket) (w : Work) : UnitsWorked w (raiseDispatch t w) := .of_raise w (by decide) _ _

theorem unitsWorked_dispatch (level : Nat) (t : Ticket) (w : Work) : UnitsWorked w (dispatch level t w) :=
  (unitsWorked_putTicket _ _).trans (unitsWorked_raiseDispatch _ _)

theorem unitsWorked_reserveUnit? {key : Nat} {w v : Work} (h : reserveUnit? key w = some v) : UnitsWorked w v := by
  obtain ⟨i, t, found, -, rfl⟩ := reserveUnit?_eq h
  exact unitsWorked_setType (slotType?_lookup found) _

theorem unitsWorked_giveBackUnit (key : Nat) (w : Work) : UnitsWorked w (giveBackUnit key w) := by
  unfold giveBackUnit
  split
  · exact .refl w
  · exact unitsWorked_setType (slotType?_lookup ‹_›) _

theorem unitsWorked_handUnit (w : Work) (t : Ticket) : UnitsWorked w (handUnit w t) := by
  unfold handUnit
  split
  · split
    · exact .refl w
    · rename_i h; exact (unitsWorked_reserveUnit? h).trans (unitsWorked_dispatch _ _ _)
  · exact .refl w

theorem unitsWorked_handOut (w : Work) : UnitsWorked w (handOut w) := .foldl unitsWorked_handUnit _ _

theorem unitsWorked_standDown (key : Nat) (w : Work) : UnitsWorked w (standDown key w) := by
  unfold standDown
  split
  · exact .refl w
  · exact (unitsWorked_putTicket _ _).trans (unitsWorked_raiseDispatch _ _)

theorem unitsWorked_withdrawUnits (i n : Nat) (w : Work) : UnitsWorked w (withdrawUnits i n w) := by
  induction n generalizing w with
  | zero => exact .refl w
  | succ n ih =>
    simp only [withdrawUnits]
    split
    · exact .refl w
    · split
      · exact .refl w
      · exact ((unitsWorked_setType ‹_› _).trans (unitsWorked_standDown _ _)).trans (ih _)

theorem unitsWorked_openTicket (p : Nat) (kind : CauseKind) (arisen : Nat) (w : Work) :
    UnitsWorked w (openTicket p kind arisen w) := by
  have joined : ∀ t n, UnitsWorked w { w with cou := { w.cou with tickets := w.cou.tickets ++ [t], lastTicket := n } } :=
    fun t n => .of_cou w _
  unfold openTicket
  dsimp only
  split
  · exact (joined _ _).trans (unitsWorked_dispatch _ _ _)
  · split
    · exact joined _ _
    · rename_i h; exact ((joined _ _).trans (unitsWorked_reserveUnit? h)).trans (unitsWorked_dispatch _ _ _)

theorem unitsWorked_arise (p : Nat) (kind : CauseKind) (w : Work) : UnitsWorked w (arise p kind w) := by
  unfold arise
  split
  · exact unitsWorked_openTicket _ _ _ _
  · exact .of_cou w _

theorem unitsWorked_openOwedFrom (l : List OwedCause) (w : Work) : UnitsWorked w (openOwedFrom l w) := by
  induction l generalizing w with
  | nil => exact .of_cou w _
  | cons o rest ih =>
    simp only [openOwedFrom]
    split
    · exact (unitsWorked_openTicket _ _ _ _).trans (ih _)
    · exact .of_cou w _

theorem unitsWorked_removeTicket (t : Ticket) (reason : ResolveReason) (gaveBack : Bool) (w : Work) :
    UnitsWorked w (removeTicket t reason gaveBack w) :=
  .trans (.of_cou w { w.cou with tickets := w.cou.tickets.filter (fun u => u.number != t.number) }) (.of_raise _ (by decide) _ _)

theorem unitsWorked_dropOwed (p : OwedCause → Bool) (w : Work) : UnitsWorked w (dropOwed p w) := .of_cou w _

theorem unitsWorked_evaluateAlarm (w : Work) : UnitsWorked w (evaluateAlarm w) := .of_cou w _

theorem unitsWorked_resolveTicket (reason : ResolveReason) (w : Work) (t : Ticket) :
    UnitsWorked w (resolveTicket reason w t) := by
  have removed : ∀ v gaveBack, UnitsWorked v (removeTicket t reason gaveBack v) := fun v gaveBack =>
    unitsWorked_removeTicket t reason gaveBack v
  unfold resolveTicket
  split
  · split
    · exact (unitsWorked_giveBackUnit _ _).trans (removed _ _)
    · exact removed _ _
  · exact removed _ _

theorem unitsWorked_resolveWhere (p : Ticket → Bool) (reason : ResolveReason) (w : Work) :
    UnitsWorked w (resolveWhere p reason w) := .foldl (unitsWorked_resolveTicket reason) _ _

theorem raiseReorder_raised (w : Work) (i : Nat) :
    ∃ new, (raiseReorder w i).raised = w.raised ++ new ∧ ∀ r ∈ new, r.kind = .reorderDue := by
  unfold raiseReorder
  split
  · exact ⟨[], (List.append_nil _).symm, by simp⟩
  · exact ⟨[_], rfl, fun r hr => by rw [List.mem_singleton.mp hr]⟩

theorem foldl_raiseReorder_raised (l : List Nat) (w : Work) :
    ∃ new, (l.foldl raiseReorder w).raised = w.raised ++ new ∧ ∀ r ∈ new, r.kind = .reorderDue := by
  induction l generalizing w with
  | nil => exact ⟨[], (List.append_nil _).symm, by simp⟩
  | cons i rest ih =>
    obtain ⟨new, raised, kind⟩ := raiseReorder_raised w i
    obtain ⟨new', raised', kind'⟩ := ih (raiseReorder w i)
    refine ⟨new ++ new', ?_, fun r hr => (List.mem_append.mp hr).elim (kind r) (kind' r)⟩
    rw [List.foldl_cons, raised', raised, List.append_assoc]

theorem orderPoint_raised (w : Work) :
    ∃ new, (orderPoint w).raised = w.raised ++ new ∧ ∀ r ∈ new, r.kind = .reorderDue := foldl_raiseReorder_raised _ w

theorem unitsWorked_orderPoint (w : Work) : UnitsWorked w (orderPoint w) := by
  obtain ⟨new, raised, kind⟩ := orderPoint_raised w
  refine ⟨⟨w.spu.types, w.cou, new, (orderPoint w).due, ?_, fun r hr => by rw [kind r hr]; decide⟩, fun i => ?_⟩
  · calc orderPoint w = { (orderPoint w).toRecords with raised := (orderPoint w).raised, due := (orderPoint w).due } := rfl
      _ = _ := by rw [orderPoint_records, raised]
  · rw [orderPoint_records]
    exact same_reservations w i

theorem unitsWorked_endHandling (w : Work) : UnitsWorked w (endHandling w) :=
  (((unitsWorked_handOut w).trans (unitsWorked_openOwedFrom _ _)).trans (unitsWorked_evaluateAlarm _)).trans
    (unitsWorked_orderPoint _)

theorem UnitsWorked.stands {w v : Work} {i : Nat} {t : SupplyType} (h : UnitsWorked w v)
    (ht : w.spu.types.lookup i = some t) : ∃ l, v.spu.types.lookup i = some { t with reservations := l } := by
  obtain ⟨l, hl⟩ := h.types i
  exact ⟨l, by rw [hl, ht]; rfl⟩

/-- What a reply says of a type after a handling is its record. -/
theorem UnitsWorked.typeAfter {w v : Work} {i : Nat} {t : SupplyType} (h : UnitsWorked w v)
    (ht : w.spu.types.lookup i = some t) (before : SupplyType) :
    v.spu.types.lookup i = some (typeAfter v.toRecords i before) := by
  obtain ⟨l, found⟩ := h.stands ht
  rw [Machine.typeAfter, found]
  rfl

/-! ### The slot keys -/

theorem code_lt_four (l : SlotLetter) : l.code < 4 := by cases l <;> decide

theorem slotKey_div (p : Nat) (l : SlotLetter) : slotKey p l / 4 = p := by
  have := code_lt_four l
  simp only [slotKey]
  omega

theorem slotKey_mod (p : Nat) (l : SlotLetter) : slotKey p l % 4 = l.code := by
  have := code_lt_four l
  simp only [slotKey]
  omega

theorem code_inj {l l' : SlotLetter} (h : l.code = l'.code) : l = l' := by
  revert h
  cases l <;> cases l' <;> decide

/-- A slot key names one printer and one letter. -/
theorem slotKey_inj {p q : Nat} {l l' : SlotLetter} (h : slotKey p l = slotKey q l') : p = q ∧ l = l' :=
  ⟨by rw [← slotKey_div p l, h, slotKey_div], code_inj (by rw [← slotKey_mod p l, h, slotKey_mod])⟩

/-- The key of a cause is that of a slot where the cause is SUPPLY there. -/
theorem causeSlot_iff (p q : Nat) (kind : CauseKind) (l : SlotLetter) :
    kind.slot?.map (slotKey q) = some (slotKey p l) ↔ q = p ∧ kind = .supply l := by
  cases kind with
  | supply l' =>
    simp only [CauseKind.slot?, Option.map_some, Option.some.injEq, CauseKind.supply.injEq]
    exact ⟨slotKey_inj, fun ⟨h, k⟩ => by rw [h, k]⟩
  | fault c => exact ⟨(nomatch ·), fun h => (nomatch h.2)⟩
  | restart => exact ⟨(nomatch ·), fun h => (nomatch h.2)⟩
  | absence => exact ⟨(nomatch ·), fun h => (nomatch h.2)⟩

theorem key?_iff (t : Ticket) (p : Nat) (l : SlotLetter) :
    t.key? = some (slotKey p l) ↔ t.printer = p ∧ t.kind = .supply l := causeSlot_iff p t.printer t.kind l

theorem key?_of_supply {t : Ticket} {l : SlotLetter} (h : t.kind = .supply l) : t.key? = some (slotKey t.printer l) :=
  (key?_iff t t.printer l).mpr ⟨rfl, h⟩

theorem key?_of_no_slot {t : Ticket} (h : t.kind.slot? = none) : t.key? = none := by rw [Ticket.key?, h]; rfl

/-! ### Units (R129 to R131, R137) -/

section
variable {r : Records} {w : Work} {key : Nat} {slot : Slot} {ty : SupplyType}

theorem fittedType?_of_lookup (hs : r.spu.slots.lookup key = some slot) : fittedType? r key = some slot.supplyType := by
  rw [fittedType?, hs]; rfl

theorem slotType?_of_fitted (hs : r.spu.slots.lookup key = some slot) (ht : r.spu.types.lookup slot.supplyType = some ty) :
    slotType? r key = some (slot.supplyType, ty) := by
  rw [slotType?, fittedType?_of_lookup hs]
  simp only [ht, Option.map_some]

variable (hs : w.spu.slots.lookup key = some slot) (ht : w.spu.types.lookup slot.supplyType = some ty)
include hs ht

theorem reserveUnit?_of_free (h : ty.reservations.length < ty.onHand) :
    reserveUnit? key w = some (w.setType slot.supplyType { ty with reservations := ty.reservations ++ [key] }) := by
  rw [reserveUnit?, slotType?_of_fitted hs ht]
  exact if_pos (Nat.sub_pos_of_lt h)

theorem reserveUnit?_of_short (h : ty.onHand ≤ ty.reservations.length) : reserveUnit? key w = none := by
  rw [reserveUnit?, slotType?_of_fitted hs ht]
  exact if_neg (Nat.not_lt.mpr (Nat.sub_eq_zero_of_le h).le)

theorem giveBackUnit_of_fitted :
    giveBackUnit key w = w.setType slot.supplyType { ty with reservations := ty.reservations.erase key } := by
  rw [giveBackUnit, slotType?_of_fitted hs ht]

end

theorem ackTime_eq (c : Cou) (level : Nat) :
    c.ackTime level = if level = 0 then c.ack0 else if level = 1 then c.ack1 else if level = 2 then c.ack2 else c.ack3 := by
  match level with
  | 0 => rfl
  | 1 => rfl
  | 2 => rfl
  | n + 3 => rfl

theorem handUnit_of_not_waiting (w : Work) {t : Ticket} (h : t.state ≠ .waitingStock) : handUnit w t = w := by
  unfold handUnit
  split
  · rename_i waits _; exact absurd waits h
  · rfl

theorem handUnit_of_waiting {w : Work} {t : Ticket} {key : Nat} (h : t.state = .waitingStock) (hk : t.key? = some key) :
    handUnit w t = (reserveUnit? key w).elim w (dispatch t.level { t with holdsUnit := true }) := by
  simp only [handUnit, h, hk]
  cases reserveUnit? key w <;> rfl

/-! ### Withdrawal (R137, R148) -/

theorem withdrawUnits_succ {w : Work} {i : Nat} {ty : SupplyType} {key : Nat} {older : List Nat} (n : Nat)
    (ht : w.spu.types.lookup i = some ty) (hr : ty.reservations = older ++ [key]) :
    withdrawUnits i (n + 1) w = withdrawUnits i n (standDown key (w.setType i { ty with reservations := older })) := by
  simp only [withdrawUnits, ht, hr, List.getLast?_concat, List.dropLast_concat]

theorem standDown_of_none {w : Work} {key : Nat} (h : ticketOfSlot? w.toRecords key = none) : standDown key w = w := by
  simp only [standDown, h]

theorem standDown_of_some {w : Work} {key : Nat} {t : Ticket} (h : ticketOfSlot? w.toRecords key = some t) :
    standDown key w =
      raiseDispatch { t with state := .waitingStock, deadline := none, holdsUnit := false }
        (putTicket { t with state := .waitingStock, deadline := none, holdsUnit := false } w) := by
  simp only [standDown, h]

theorem ticketOfSlot?_eq_none {r : Records} {p : Nat} {l : SlotLetter}
    (h : ∀ t ∈ r.cou.tickets, ¬ (t.printer = p ∧ t.kind = .supply l)) : ticketOfSlot? r (slotKey p l) = none :=
  List.find?_eq_none.mpr fun t ht found => h t ht ((key?_iff t p l).mp (of_decide_eq_true found))

theorem ticketOfSlot?_eq_some {r : Records} {p : Nat} {l : SlotLetter} {before after : List Ticket} {t : Ticket}
    (split : r.cou.tickets = before ++ t :: after) (h : ∀ u ∈ before, ¬ (u.printer = p ∧ u.kind = .supply l))
    (ht : t.printer = p ∧ t.kind = .supply l) : ticketOfSlot? r (slotKey p l) = some t := by
  have none_before : before.find? (fun u => decide (u.key? = some (slotKey p l))) = none :=
    List.find?_eq_none.mpr fun u hu found => h u hu ((key?_iff u p l).mp (of_decide_eq_true found))
  rw [ticketOfSlot?, split, List.find?_append, none_before, Option.none_or, List.find?_cons_of_pos]
  exact decide_eq_true ((key?_iff t p l).mpr ht)

theorem mem_of_ticketOfSlot? {r : Records} {key : Nat} {t : Ticket} (h : ticketOfSlot? r key = some t) :
    t ∈ r.cou.tickets ∧ t.key? = some key :=
  ⟨List.mem_of_find?_eq_some h, by simpa using List.find?_some h⟩

/-- The letter of a slot's ticket stands in its notices. -/
theorem slot?_of_key? {t : Ticket} {key : Nat} (h : t.key? = some key) : ∃ l, t.kind = .supply l ∧ slotKey t.printer l = key := by
  unfold Ticket.key? CauseKind.slot? at h
  split at h
  · rename_i l hl; exact ⟨l, hl, Option.some.inj h⟩
  · cases h

/-! ### Types that are due (R133) -/

theorem orderState_due_iff (r : Records) (i : Nat) (t : SupplyType) :
    orderState r i t = .due ↔ (t.onHand : Int) - t.reservations.length + t.onOrder < need r i t := by
  change _ ↔ t.position < need r i t
  unfold orderState
  split
  · exact ⟨fun _ => ‹_›, fun _ => rfl⟩
  · refine ⟨fun h => ?_, fun h => absurd h ‹_›⟩
    split at h <;> cases h

/-- The entries of the types that are due. -/
def dueEntries (r : Records) : Table SupplyType :=
  r.spu.types.filter (fun e => decide ((e.2.onHand : Int) - e.2.reservations.length + e.2.onOrder < need r e.1 e.2))

theorem dueTypes_eq (r : Records) : dueTypes r = (dueEntries r).map (·.1) := by
  simp only [dueTypes, dueEntries, orderState_due_iff]

theorem mem_dueTypes_iff {r : Records} (sound : TablesSound r) (k : Nat) :
    k ∈ dueTypes r ↔ ∃ t, r.spu.types.lookup k = some t
      ∧ (t.onHand : Int) - t.reservations.length + t.onOrder < need r k t := by
  rw [dueTypes_eq, List.mem_map]
  constructor
  · rintro ⟨e, he, rfl⟩
    obtain ⟨he, short⟩ := List.mem_filter.mp he
    exact ⟨e.2, sound.types.lookup_of_mem he, of_decide_eq_true short⟩
  · rintro ⟨t, ht, short⟩
    exact ⟨(k, t), List.mem_filter.mpr ⟨Table.mem_of_lookup ht, decide_eq_true short⟩, rfl⟩

/-- REORDER_DUE as it is raised for a type (R133). -/
def reorderNotice (r : Records) (e : Nat × SupplyType) : Raised where
  kind := .reorderDue
  key := e.1
  body := [u8 e.1, u8 e.2.colour.code, u8 e.2.modelGroup,
    u32 (max e.2.reorderQuantity ((need r e.1 e.2 : Int) - ((e.2.onHand : Int) - e.2.reservations.length + e.2.onOrder)).toNat),
    u16 e.2.onHand, u16 e.2.reservations.length, u16 e.2.onOrder, u16 (demand r e.1 e.2), u8 e.2.minimumStock,
    s32 ((e.2.onHand : Int) - e.2.reservations.length + e.2.onOrder), u32 (need r e.1 e.2)]

theorem raiseReorder_of_lookup {w : Work} {i : Nat} {t : SupplyType} (h : w.spu.types.lookup i = some t) :
    raiseReorder w i = { w with raised := w.raised ++ [reorderNotice w.toRecords (i, t)] } := by
  simp only [raiseReorder, h]
  rfl

theorem foldl_raiseReorder {r : Records} (l : Table SupplyType) (h : ∀ e ∈ l, r.spu.types.lookup e.1 = some e.2) (w : Work)
    (hw : w.toRecords = r) :
    (l.map (·.1)).foldl raiseReorder w = { w with raised := w.raised ++ l.map (reorderNotice r) } := by
  induction l generalizing w with
  | nil => simp
  | cons e rest ih =>
    have found : w.spu.types.lookup e.1 = some e.2 := by rw [hw]; exact h e List.mem_cons_self
    rw [List.map_cons, List.foldl_cons, raiseReorder_of_lookup found]
    refine (ih (fun f hf => h f (List.mem_cons_of_mem _ hf)) 
      { w with raised := w.raised ++ [reorderNotice w.toRecords e] } hw).trans ?_
    simp only [List.map_cons, hw, List.append_assoc, List.singleton_append]

/-- The evaluation of the order states announces each type that is due and was not (R133). -/
theorem orderPoint_eq {w : Work} (sound : TablesSound w.toRecords) :
    orderPoint w =
      { w with
        due := (dueEntries w.toRecords).map (·.1)
        raised := w.raised ++
          ((dueEntries w.toRecords).filter (fun e => !w.due.contains e.1)).map (reorderNotice w.toRecords) } := by
  have read : ∀ e ∈ (dueEntries w.toRecords).filter (fun e => !w.due.contains e.1), w.spu.types.lookup e.1 = some e.2 :=
    fun e he => sound.types.lookup_of_mem (List.mem_filter.mp (List.mem_filter.mp he).1).1
  rw [orderPoint, dueTypes_eq, List.filter_map]
  simp only [Function.comp_def]
  rw [foldl_raiseReorder _ read w rfl]

end Sys2Proof.Laws
end

section
/-! PROOF. SPU's requests and its deadline: types, stock, installs, and the estimate of the toner (06, 07). -/

namespace Sys2Proof.Supply

open Sys2Proof.Machine Sys2Proof.Safety Sys2Proof.Laws Sys2Proof.People Sys2Proof.Hold Sys2Proof.Refusals

/-! ### Types (R126, R127) -/

section
variable {w : Work} {i : Nat} {t : SupplyType} (hi : i < 32) (ht : w.spu.types.lookup i = some t)
include hi ht

theorem onType_of_active (active : t.state = .active) (f : SupplyType → Work × Answer) : onType i f w = f t := by
  have inside : ¬ Config.types ≤ i := Nat.not_le.mpr hi
  have standing : ¬ t.state = .retiring := by rw [active]; nofun
  simp only [onType, typeRefusal?, if_neg inside, ht, if_neg standing]

theorem onType_of_retiring (retiring : t.state = .retiring) (f : SupplyType → Work × Answer) :
    onType i f w = w.refuse .retiring := by
  have inside : ¬ Config.types ≤ i := Nat.not_le.mpr hi
  simp only [onType, typeRefusal?, if_neg inside, ht, if_pos retiring]

/-- The requests that name a type check it first (R125, R165). -/
theorem retiring_type_refused {c : Instr} {tag : Tag} {n : Nat} {f : SupplySettings} (retiring : t.state = .retiring)
    (hc : c ∈ [.supplySet tag i f, .supplyRetire tag i, .orderPlaced tag i n, .deliveryReceived tag i n, .stockAdjust tag i n]) :
    requestWork c w = w.refuse .retiring := by
  simp only [List.mem_cons, List.not_mem_nil, or_false] at hc
  rcases hc with rfl | rfl | rfl | rfl | rfl <;> exact onType_of_retiring hi ht retiring _

end

section
variable {w : Work} {i colour group : Nat} {f : SupplySettings}

theorem handleSupplyDefine_of_taken {t : SupplyType} (hi : i < 32) (ht : w.spu.types.lookup i = some t) :
    handleSupplyDefine i colour group f w = w.refuse (if t.state = .active then .duplicate else .retiring) := by
  have inside : ¬ Config.types ≤ i := Nat.not_le.mpr hi
  simp only [handleSupplyDefine, if_neg inside, ht]
  cases t.state <;> rfl

theorem handleSupplyDefine_of_fields (hi : i < 32) (ht : w.spu.types.lookup i = none) (h : 3 < colour ∨ 16 ≤ group) :
    handleSupplyDefine i colour group f w = w.refuse .range := by
  have inside : ¬ Config.types ≤ i := Nat.not_le.mpr hi
  simp only [handleSupplyDefine, if_neg inside, ht]
  cases letter : slotLetter? colour with
  | none => rfl
  | some l =>
    refine if_pos (h.resolve_left fun big => ?_)
    match colour, big with
    | n + 4, _ => cases letter

theorem handleSupplyDefine_of_allowed {letter : SlotLetter} (hi : i < 32) (ht : w.spu.types.lookup i = none)
    (hl : slotLetter? colour = some letter) (hg : group < 16) :
    handleSupplyDefine i colour group f w =
      (orderPoint (w.setType i (setTypeFields f (definedType letter group)))).ok
        (typeSettings (setTypeFields f (definedType letter group)) ++
          [u8 (orderState (w.setType i (setTypeFields f (definedType letter group))).toRecords i
            (setTypeFields f (definedType letter group))).code]) := by
  have inside : ¬ Config.types ≤ i := Nat.not_le.mpr hi
  simp only [handleSupplyDefine, if_neg inside, ht, hl, if_neg (Nat.not_le.mpr hg), orderPoint_records]

end

/-- Settles O50. -/
theorem supplyDefinedAndSet : Obligations.SupplyDefinedAndSet := by
  constructor
  · intro s tag i f
    constructor
    · intro colour group taken refused
      refine ⟨fun outside => exec_refused taken rfl (if_pos outside), fun hi => ⟨fun t ht => ?_, fun free fields => ?_⟩⟩
      · have answered := handleSupplyDefine_of_taken (w := s.work) (colour := colour) (group := group) (f := f) hi ht
        exact ⟨fun active => exec_refused taken rfl (answered.trans (by rw [if_pos active])),
          fun retiring => exec_refused taken rfl (answered.trans (by rw [if_neg (by rw [retiring]; nofun)]))⟩
      · exact exec_refused taken rfl (handleSupplyDefine_of_fields (w := s.work) hi free fields)
    · intro c code n t taken hc named hi ht retiring
      exact exec_refused taken hc (retiring_type_refused (w := s.work) hi ht retiring named)
  · intro s tag i f hi
    refine ⟨?defined, ?set, fun k sound => mem_dueTypes_iff sound k, fun w sound => orderPoint_eq sound⟩
    case defined =>
      intro colour letter group taken free hl hg
      exact exec_ok taken rfl (handleSupplyDefine_of_allowed (w := s.work) hi free hl hg)
    case set =>
      intro old taken ho active
      refine exec_ok taken rfl ((onType_of_active (w := s.work) hi ho active _).trans ?_)
      simp only [orderPoint_records]
      rfl

/-! ### What CARTRIDGE_READ and SUPPLY_READ carry (R119, R128) -/

section
variable {r : Records} {i letter : Nat} {l : SlotLetter} {q : Printer} (hi : i < 96) (hl : slotLetter? letter = some l)
  (hq : r.ptb.printers.lookup i = some q)
include hi hl hq

theorem answerCartridgeRead_of_no_slot (notK : l ≠ .k) (four : q.slotCount ≠ 4) :
    answerCartridgeRead i letter r = refuse .range := by
  have inside : ¬ Config.printers ≤ i := Nat.not_le.mpr hi
  simp [answerCartridgeRead, hl, inside, hq, slotInCount, notK, four]

theorem answerCartridgeRead_of_slot (slot : l = .k ∨ q.slotCount = 4) :
    answerCartridgeRead i letter r = (r.spu.slots.lookup (slotKey i l)).elim (answer .ok [flag false])
      (fun s => answer .ok (slotFields s ++ thresholdFields r s ++ [flag (holdsUnit r (slotKey i l))])) := by
  have inside : ¬ Config.printers ≤ i := Nat.not_le.mpr hi
  have inCount : slotInCount q l = true := by simpa [slotInCount] using slot
  simp only [answerCartridgeRead, hl, if_neg inside, hq, inCount, Bool.not_true, Bool.false_eq_true, if_false]
  cases r.spu.slots.lookup (slotKey i l) <;> rfl

end

theorem answerSupplyRead_of_lookup {r : Records} {i : Nat} {t : SupplyType} (hi : i < 32) (ht : r.spu.types.lookup i = some t) :
    answerSupplyRead i r = answer .ok
      ([u8 t.state.code, u8 t.colour.code, u8 t.modelGroup] ++ typeSettings t ++
        [u16 t.onHand, u16 t.reserved, listField (reservationEntry r) t.reservations, u16 t.onOrder,
          opt deadlineField t.overdue, flag t.overdueRaised, u16 (demand r i t)] ++ orderNumbers r i t ++
        [u32 (slotsOf r i (fun _ => true)), u32 (slotsOf r i (fun l => decide (l = .low))),
          u32 (slotsOf r i (fun l => decide (l = .empty))), u32 (waitingOf r i)]) := by
  have inside : ¬ Config.types ≤ i := Nat.not_le.mpr hi
  simp only [answerSupplyRead, if_neg inside, ht]

/-- Settles O51. -/
theorem supplyRead : Obligations.SupplyRead := by
  intro s tag i
  constructor
  · intro letter l q taken hi hl hq
    refine ⟨fun notK four => exec_reads taken rfl rfl (answerCartridgeRead_of_no_slot hi hl hq notK four),
      fun slot => ⟨fun unfitted => ?_, fun c t hc ht => ?_⟩⟩
    · refine exec_reads taken rfl rfl ((answerCartridgeRead_of_slot hi hl hq slot).trans ?_)
      rw [unfitted]
      rfl
    · refine exec_reads taken rfl rfl ((answerCartridgeRead_of_slot hi hl hq slot).trans ?_)
      rw [hc]
      have thresholds : thresholdFields s.toRecords c = [u8 t.lowPercent, u32 (t.leadDays + t.safetyDays)] := by
        simp only [thresholdFields, ht]
      have holds : holdsUnit s.toRecords (slotKey i l) = t.reservations.contains (slotKey i l) := by
        simp only [holdsUnit, slotType?_of_fitted hc ht]
      simp only [Option.elim_some, thresholds, holds]
      rfl
  · intro t taken hi ht fitted
    exact exec_reads taken rfl rfl ((answerSupplyRead_of_lookup hi ht).trans rfl)

/-! ### Orders, deliveries and counts (R134 to R137) -/

theorem quantityInRange_iff (n : Nat) : quantityInRange n = true ↔ 1 ≤ n ∧ n ≤ 999 := by
  simp only [quantityInRange, Bool.and_eq_true, decide_eq_true_eq]
  exact Iff.rfl

theorem deliveredType_eq (n : Nat) (t : SupplyType) :
    deliveredType n t =
      { t with
        onHand := min 999 (t.onHand + n), onOrder := t.onOrder - n
        overdue := if decide (t.onOrder ≤ n) = true then none else t.overdue
        overdueRaised := !decide (t.onOrder ≤ n) && t.overdueRaised } := by
  by_cases ended : t.onOrder ≤ n <;> simp [deliveredType, ended, Config.maxStock]

section
variable {w : Work} {i n : Nat} {t : SupplyType} (hi : i < 32) (ht : w.spu.types.lookup i = some t) (active : t.state = .active)
include hi ht active

theorem handleOrderPlaced_of_quantity (h : n = 0 ∨ 999 < n) : handleOrderPlaced i n w = w.refuse .range := by
  have outside : quantityInRange n = false := Bool.eq_false_iff.mpr fun inside => by
    have := (quantityInRange_iff n).mp inside; omega
  refine (onType_of_active hi ht active _).trans ?_
  rw [outside]
  rfl

theorem handleDeliveryReceived_of_quantity (h : n = 0 ∨ 999 < n) : handleDeliveryReceived i n w = w.refuse .range := by
  have outside : quantityInRange n = false := Bool.eq_false_iff.mpr fun inside => by
    have := (quantityInRange_iff n).mp inside; omega
  refine (onType_of_active hi ht active _).trans ?_
  rw [outside]
  rfl

theorem handleStockAdjust_of_count (h : 999 < n) : handleStockAdjust i n w = w.refuse .range :=
  (onType_of_active hi ht active _).trans (if_pos h)

theorem handleOrderPlaced_of_allowed (h : 1 ≤ n) (h' : n ≤ 999) :
    handleOrderPlaced i n w =
      (orderPoint (w.setType i (orderedType w.now n t))).ok
        ([u32 ((orderedType w.now n t).onOrder - t.onOrder), u16 (orderedType w.now n t).onOrder,
          opt deadlineField (orderedType w.now n t).overdue] ++
          orderNumbers (w.setType i (orderedType w.now n t)).toRecords i (orderedType w.now n t)) := by
  have inside : quantityInRange n = true := (quantityInRange_iff n).mpr ⟨h, h'⟩
  refine (onType_of_active hi ht active _).trans ?_
  simp only [inside, Bool.not_true, Bool.false_eq_true, if_false, orderPoint_records]

theorem handleDeliveryReceived_of_allowed (h : 1 ≤ n) (h' : n ≤ 999) {v : Work} {t' t2 : SupplyType}
    (h1 : deliveredType n t = t') (hv : v = endHandling (w.setType i t')) (h2 : t2 = typeAfter v.toRecords i t') :
    handleDeliveryReceived i n w =
      v.ok ([u32 (t'.onHand - t.onHand), u16 t2.onHand, u16 t2.reserved, u16 t2.onOrder,
        u32 (waitingTickets w.toRecords - waitingTickets v.toRecords)] ++ orderNumbers v.toRecords i t2) := by
  have inside : quantityInRange n = true := (quantityInRange_iff n).mpr ⟨h, h'⟩
  refine (onType_of_active hi ht active _).trans ?_
  subst h1 hv h2
  simp only [inside, Bool.not_true, Bool.false_eq_true, if_false]
  rfl

theorem handleStockAdjust_of_allowed (h : n ≤ 999) {u v : Work} {t2 : SupplyType}
    (hu : u = withdrawUnits i (t.reservations.length - n) (w.setType i { t with onHand := n })) (hv : v = endHandling u)
    (h2 : t2 = typeAfter v.toRecords i t) :
    handleStockAdjust i n w =
      v.ok ([u16 t.onHand, u16 t2.onHand, u32 (t.reservations.length - n),
        u32 (waitingTickets u.toRecords - waitingTickets v.toRecords)] ++ orderNumbers v.toRecords i t2) := by
  refine (onType_of_active hi ht active _).trans ((if_neg (Nat.not_lt.mpr h)).trans ?_)
  subst hu hv h2
  rfl

end

section
variable {w : Work} {i : Nat} {t : SupplyType} {d : Deadline} (ht : w.spu.types.lookup i = some t) (hd : t.overdue = some d)
include ht hd

theorem overdueFalls_of_due (due : fallen w.now d) :
    overdueFalls i w =
      if 0 < t.onOrder then
        (w.setType i { t with overdue := none, overdueRaised := true }).raise .orderOverdue i
          [u8 i, u16 t.onOrder, deadlineField d, u8 (orderState w.toRecords i t).code]
      else w.setType i { t with overdue := none } := by
  simp only [overdueFalls, ht, hd, if_pos ((reached_iff_fallen d w.now).mpr due)]

theorem overdueFalls_of_not_due (waits : ¬ fallen w.now d) : overdueFalls i w = w := by
  simp only [overdueFalls, ht, hd, if_neg (mt (reached_iff_fallen d w.now).mp waits)]

end

/-- A unit handed to a ticket that waits (R131, R148). -/
theorem handUnit_of_free {w : Work} {t : Ticket} {l : SlotLetter} {slot : Slot} {ty : SupplyType} (waits : t.state = .waitingStock)
    (hk : t.kind = .supply l) (hs : w.spu.slots.lookup (slotKey t.printer l) = some slot)
    (ht : w.spu.types.lookup slot.supplyType = some ty) (free : ty.reservations.length < ty.onHand) :
    handUnit w t = dispatch t.level { t with holdsUnit := true }
      (w.setType slot.supplyType { ty with reservations := ty.reservations ++ [slotKey t.printer l] }) := by
  rw [handUnit_of_waiting waits (key?_of_supply hk), reserveUnit?_of_free hs ht free, Option.elim_some]

theorem handUnit_of_short {w : Work} {t : Ticket} {l : SlotLetter} {slot : Slot} {ty : SupplyType} (waits : t.state = .waitingStock)
    (hk : t.kind = .supply l) (hs : w.spu.slots.lookup (slotKey t.printer l) = some slot)
    (ht : w.spu.types.lookup slot.supplyType = some ty) (short : ty.onHand ≤ ty.reservations.length) : handUnit w t = w := by
  rw [handUnit_of_waiting waits (key?_of_supply hk), reserveUnit?_of_short hs ht short, Option.elim_none]

/-- Settles O52. -/
theorem stockMoved : Obligations.StockMoved := by
  refine ⟨?moved, ?handed, ?withdrawn⟩
  case moved =>
    intro s tag i n t hi ht numbers
    refine ⟨fun active outside => ⟨fun taken => ?_, fun taken => ?_, fun h taken => ?_⟩,
      fun active h h' => ⟨?ordered, ?delivered⟩, ?counted, ?overdue⟩
    case ordered =>
      intro taken deadline t' w
      exact exec_ok taken rfl (handleOrderPlaced_of_allowed (w := s.work) hi ht active h h')
    case delivered =>
      intro taken ended t' w
      have stands : w.spu.types.lookup i = some (typeAfter w.toRecords i t') :=
        (unitsWorked_endHandling (s.work.setType i t')).typeAfter (Table.lookup_put_self _ _ _) t'
      exact ⟨_, stands, exec_ok taken rfl
        (handleDeliveryReceived_of_allowed (w := s.work) hi ht active h h' (deliveredType_eq n t) rfl rfl)⟩
    case counted =>
      intro active h taken cut w
      have worked : UnitsWorked (s.work.setType i { t with onHand := n }) w :=
        (unitsWorked_withdrawUnits _ _ _).trans (unitsWorked_endHandling _)
      have stands : w.spu.types.lookup i = some (typeAfter w.toRecords i t) :=
        worked.typeAfter (Table.lookup_put_self _ _ _) t
      exact ⟨_, stands, exec_ok taken rfl (handleStockAdjust_of_allowed (w := s.work) hi ht active h rfl rfl rfl)⟩
    case overdue =>
      intro d hd power
      exact ⟨fun due waits => exec_passed power rfl ((overdueFalls_of_due (w := s.work) ht hd due).trans (if_pos waits)),
        fun due arrived => exec_passed power rfl
          ((overdueFalls_of_due (w := s.work) ht hd due).trans (if_neg (by rw [arrived]; exact Nat.lt_irrefl 0))),
        fun notDue => exec_passed power rfl (overdueFalls_of_not_due (w := s.work) ht hd notDue)⟩
    · exact exec_refused taken rfl (handleOrderPlaced_of_quantity (w := s.work) hi ht active outside)
    · exact exec_refused taken rfl (handleDeliveryReceived_of_quantity (w := s.work) hi ht active outside)
    · exact exec_refused taken rfl (handleStockAdjust_of_count (w := s.work) hi ht active (outside.resolve_left h))
  case handed =>
    intro w t level
    refine ⟨rfl, handUnit_of_not_waiting w, ?_⟩
    intro l slot ty waits hk hs ht deadline t' held
    refine ⟨handUnit_of_short waits hk hs ht, fun free => (handUnit_of_free waits hk hs ht free).trans ?_⟩
    have time : w.cou.ackTime t.level = level t.level := ackTime_eq w.cou t.level
    have ticket : dispatchedAt held.cou held.now t.level { t with holdsUnit := true } = t' := by
      simp only [dispatchedAt, t', deadline, ← time]
      rfl
    have kind : t'.kind = .supply l := hk
    have letter : opt u8 t'.kind.detail = u8 l.code := by rw [kind]; rfl
    have unit : t'.holdsUnitField = u8 1 := by rw [Ticket.holdsUnitField, kind]; rfl
    change raiseDispatch (dispatchedAt held.cou held.now t.level { t with holdsUnit := true })
      (putTicket (dispatchedAt held.cou held.now t.level { t with holdsUnit := true }) held) = _
    rw [ticket]
    simp only [raiseDispatch, letter, unit]
    rfl
  case withdrawn =>
    intro w i n
    refine ⟨rfl, ?_⟩
    intro ty key older ht hr cut
    constructor
    · intro free
      rw [withdrawUnits_succ n ht hr, standDown_of_none (w := cut) free]
    · intro t found t'
      obtain ⟨l, kind, -⟩ := slot?_of_key? (mem_of_ticketOfSlot? found).2
      have unit : t'.holdsUnitField = u8 0 := by rw [Ticket.holdsUnitField, show t'.kind = .supply l from kind]; rfl
      rw [withdrawUnits_succ n ht hr, standDown_of_some (w := cut) found]
      change withdrawUnits i n (raiseDispatch t' (putTicket t' cut)) = _
      rw [raiseDispatch, unit]
      rfl

/-! ### Installing a cartridge (R138 to R140) -/

section
variable {w : Work} {i k letter : Nat} {l : SlotLetter} {q : Printer}

theorem handleCartridgeInstall_of_letter (h : 3 < letter) : handleCartridgeInstall i letter k w = w.refuse .range := by
  match letter, h with
  | n + 4, _ => rfl

variable (hi : i < 96) (hk : k < 32) (hl : slotLetter? letter = some l) (hq : w.ptb.printers.lookup i = some q)
include hi hk hl hq

theorem handleCartridgeInstall_of_retiring {accepted : Nat} (h : q.state = .retiring accepted) :
    handleCartridgeInstall i letter k w = w.refuse .retiring := by
  have inside : ¬ (Config.printers ≤ i ∨ Config.types ≤ k) := not_or.mpr ⟨Nat.not_le.mpr hi, Nat.not_le.mpr hk⟩
  simp only [handleCartridgeInstall, hl, if_neg inside, hq, h]

theorem handleCartridgeInstall_of_no_slot (runs : Runs q) (notK : l ≠ .k) (four : q.slotCount ≠ 4) :
    handleCartridgeInstall i letter k w = w.refuse .range := by
  have inside : ¬ (Config.printers ≤ i ∨ Config.types ≤ k) := not_or.mpr ⟨Nat.not_le.mpr hi, Nat.not_le.mpr hk⟩
  have outCount : slotInCount q l = false := by simp [slotInCount, notK, four]
  simp only [handleCartridgeInstall, hl, if_neg inside, hq, outCount, Bool.not_false, if_true]
  split
  · rename_i accepted retiring; exact absurd retiring (runs accepted)
  · rfl

end

/-- COU is told of a new cartridge in a slot that has no ticket. -/
theorem tellInstalled_of_none {w : Work} {p : Nat} {l : SlotLetter} (gaveBack : Bool)
    (h : ticketOfSlot? w.toRecords (slotKey p l) = none) :
    tellInstalled (slotKey p l) gaveBack w =
      w.setBacklog (w.cou.backlog.filter (fun o => !decide (o.printer = p ∧ o.kind = .supply l))) := by
  simp only [tellInstalled, h, dropOwed, causeSlot_iff]

theorem tellInstalled_of_some {w : Work} {p : Nat} {l : SlotLetter} {t : Ticket} (gaveBack : Bool)
    (h : ticketOfSlot? w.toRecords (slotKey p l) = some t) :
    tellInstalled (slotKey p l) gaveBack w =
      (w.setTickets (w.cou.tickets.filter (fun u => u.number != t.number))).raise .calloutResolved t.number
        [u32 t.number, u8 p, u8 3, u8 l.code, u8 2, u8 t.state.code, u8 t.level, flag gaveBack] := by
  obtain ⟨rfl, kind⟩ := (key?_iff t p l).mp (mem_of_ticketOfSlot? h).2
  simp only [tellInstalled, h, removeTicket, kind]
  rfl

theorem raiseSlotLevel_of_lookup {w : Work} {p : Nat} {l : SlotLetter} {slot : Slot}
    (hs : w.spu.slots.lookup (slotKey p l) = some slot) (previous : Option LevelState) (cause : SlotCause) :
    raiseSlotLevel p l previous cause w = w.raise .slotLevel (slotKey p l)
      [u8 p, u8 l.code, u8 slot.supplyType, opt (fun l => u8 l.code) previous, u8 slot.state.code, u8 cause.code,
        u8 slot.level, u32 slot.remaining, u32 slot.average, u16 slot.projected, flag slot.corrected] := by
  simp only [raiseSlotLevel, hs]

section
variable {w : Work} {key k : Nat} {t : SupplyType}

theorem drawUnit_of_shelf (h : ∀ c, ticketOfSlot? w.toRecords key = some c → c.holdsUnit = false) :
    drawUnit key k t w = drawStock k t false w := by
  unfold drawUnit
  split
  · rename_i c hc; exact if_pos (by rw [h c hc]; rfl)
  · rfl

variable {c : Ticket} (hc : ticketOfSlot? w.toRecords key = some c) (holds : c.holdsUnit = true)
include hc holds

theorem drawUnit_of_held (fitted : fittedType? w.toRecords key = some k) :
    drawUnit key k t w =
      (w.setType k { t with onHand := t.onHand - 1, reservations := t.reservations.erase key },
        { source := .reserved, withdrawn := none, gaveBack := false }) := by
  simp only [drawUnit, hc, holds, Bool.not_true, Bool.false_eq_true, if_false, if_pos fitted]

theorem drawUnit_of_other (fitted : fittedType? w.toRecords key ≠ some k) :
    drawUnit key k t w = drawStock k t true (giveBackUnit key w) := by
  simp only [drawUnit, hc, holds, Bool.not_true, Bool.false_eq_true, if_false, if_neg fitted]

end

theorem sourceCode_eq (t : SupplyType) :
    (if t.onHand = 0 then UnitSource.none else UnitSource.stock).code = if t.onHand = 0 then 2 else 1 := by
  split <;> rfl

/-- An install, given what it draws. -/
theorem install_eq {i k : Nat} {l : SlotLetter} {t : SupplyType} {w drawn v : Work} {source : UnitSource} {withdrawn : Option Nat}
    {gaveBack : Bool} {t2 : SupplyType} (hd : drawUnit (slotKey i l) k t w = (drawn, ⟨source, withdrawn, gaveBack⟩))
    (hv : v = endHandling (announceInstall i l (w.spu.slots.lookup (slotKey i l))
      (tellInstalled (slotKey i l) gaveBack
        (drawn.setSlot (slotKey i l) (installedSlot k t (w.spu.slots.lookup (slotKey i l)))))))
    (h2 : t2 = typeAfter v.toRecords k t) :
    install i l k t w =
      v.ok
        [u32 (installedSlot k t (w.spu.slots.lookup (slotKey i l))).capacity,
          u32 (installedSlot k t (w.spu.slots.lookup (slotKey i l))).average, u8 source.code,
          opt (fun k => compound [u8 (k / 4), u8 (k % 4)]) withdrawn,
          opt (fun t => u32 t.number) (ticketOfSlot? w.toRecords (slotKey i l)), u16 t2.onHand, u16 t2.reserved,
          u8 (orderState v.toRecords k t2).code] := by
  subst hv h2
  simp only [install, hd]

theorem unitsWorked_tellInstalled (key : Nat) (gaveBack : Bool) (w : Work) : UnitsWorked w (tellInstalled key gaveBack w) := by
  unfold tellInstalled
  split
  · exact unitsWorked_removeTicket _ _ _ _
  · exact unitsWorked_dropOwed _ _

theorem unitsWorked_announceInstall (p : Nat) (l : SlotLetter) (old : Option Slot) (w : Work) :
    UnitsWorked w (announceInstall p l old w) := by
  have announced : ∀ previous cause, UnitsWorked w (raiseSlotLevel p l previous cause w) := by
    intro previous cause
    unfold raiseSlotLevel
    split
    · exact .refl w
    · exact .of_raise w (by decide) _ _
  unfold announceInstall
  split
  · split
    · exact .refl w
    · exact announced _ _
  · exact announced _ _

/-- Settles O53. -/
theorem cartridgeInstalled : Obligations.CartridgeInstalled := by
  refine ⟨?refusals, ?brings, ?accepted⟩
  case refusals =>
    intro s tag i letter k taken refused
    refine ⟨fun outside => exec_refused taken rfl (handleCartridgeInstall_of_letter outside), fun l q hi hk hl hq => ⟨?_, ?_⟩⟩
    · intro accepted retiring
      exact exec_refused taken rfl (handleCartridgeInstall_of_retiring (w := s.work) hi hk hl hq retiring)
    · intro runs
      refine ⟨fun notK four => exec_refused taken rfl
        (handleCartridgeInstall_of_no_slot (w := s.work) hi hk hl hq runs notK four), fun t slot ht retiring => ?_⟩
      exact exec_refused taken rfl ((handleCartridgeInstall_of_slot (w := s.work) hl hi hk hq runs slot).trans
        (onType_of_retiring (w := s.work) hk ht retiring _))
  case brings =>
    intro w i l gaveBack slot hs its told
    refine ⟨fun free => ?_, fun before t after tickets first found => ?_, raiseSlotLevel_of_lookup hs _ _, fun old => ⟨fun ok => ?_, fun low => ?_⟩⟩
    · have free := ticketOfSlot?_eq_none (r := w.toRecords) free
      exact ⟨free, tellInstalled_of_none gaveBack free⟩
    · have found := ticketOfSlot?_eq_some (r := w.toRecords) tickets first found
      exact ⟨found, tellInstalled_of_some gaveBack found⟩
    · exact if_pos ok
    · exact (if_neg low).trans (raiseSlotLevel_of_lookup hs _ _)
  case accepted =>
    intro s tag i letter k l q t taken hi hk hl hq runs inCount ht active key old ticket average slot
    have examined := (handleCartridgeInstall_of_slot (w := s.work) hl hi hk hq runs inCount).trans
      (onType_of_active (w := s.work) hk ht active _)
    refine ⟨fun mismatch => exec_refused taken rfl (examined.trans (if_pos mismatch)), ?_⟩
    intro colour group installed short fromShelf withdrawn source
    have matched : ¬ (t.colour ≠ l ∨ t.modelGroup ≠ q.modelGroup) := not_or.mpr ⟨not_not.mpr colour, not_not.mpr group⟩
    have accepted : ∀ (source : UnitSource) (withdrawn : Option Nat) (gaveBack : Bool) (drawn : Work),
        drawUnit key k t s.work = (drawn, ⟨source, withdrawn, gaveBack⟩) → (drawn.spu.types.lookup k).isSome →
        installed source.code withdrawn gaveBack drawn := by
      intro source withdrawn gaveBack drawn hd stands
      have worked : UnitsWorked (drawn.setSlot key slot)
          (endHandling (announceInstall i l old (tellInstalled key gaveBack (drawn.setSlot key slot)))) :=
        ((unitsWorked_tellInstalled _ _ _).trans (unitsWorked_announceInstall _ _ _ _)).trans (unitsWorked_endHandling _)
      obtain ⟨t1, ht1⟩ := Option.isSome_iff_exists.mp stands
      exact ⟨_, worked.typeAfter (i := k) ht1 t,
        exec_ok taken rfl (examined.trans ((if_neg matched).trans (install_eq hd rfl rfl)))⟩
    have shelved : ∀ (gaveBack : Bool) (v : Work), drawUnit key k t s.work = drawStock k t gaveBack v →
        installed source withdrawn gaveBack (fromShelf v) := by
      intro gaveBack v hd
      obtain ⟨l, stands⟩ := (unitsWorked_withdrawUnits k short (v.setType k { t with onHand := t.onHand - 1 })).stands
        (Table.lookup_put_self _ _ _)
      have code : _ = source := sourceCode_eq t
      rw [← code]
      exact accepted _ _ _ _ hd (by rw [stands]; rfl)
    refine ⟨fun free => shelved false s.work (drawUnit_of_shelf free), fun c hc holds fitted => ?_, fun c hc holds fitted => ?_⟩
    · exact accepted _ _ _ _ (drawUnit_of_held hc holds fitted) (by rw [Work.setType_types, Table.lookup_put_self]; rfl)
    · exact shelved true _ (drawUnit_of_other hc holds fitted)

/-! ### The estimate (R108 to R118) -/

theorem levelVerdict_eq (t : SupplyType) (s : Slot) :
    levelVerdict t s =
      if s.state = .empty ∨ s.remaining = 0 then .empty
      else if s.state = .low ∨ s.level ≤ t.lowPercent ∨ s.projected ≤ t.leadDays + t.safetyDays then .low
      else .ok := by
  cases h : s.state <;> simp only [levelVerdict, h, true_or, if_true, reduceCtorEq, false_or]

/-- A slot as an evaluation leaves it, with the cause that a change to EMPTY makes. -/
def evaluated (p : Nat) (l : SlotLetter) (before after : Slot) (w : Work) : Work :=
  if after.state = .empty ∧ before.state ≠ .empty then arise p (.supply l) (w.setSlot (slotKey p l) after)
  else w.setSlot (slotKey p l) after

/-- SLOT_LEVEL for a slot whose record is known. -/
def slotNotice (p : Nat) (l : SlotLetter) (before : LevelState) (slot : Slot) (cause : SlotCause) : List Field :=
  [u8 p, u8 l.code, u8 slot.supplyType, u8 before.code, u8 slot.state.code, u8 cause.code, u8 slot.level, u32 slot.remaining,
    u32 slot.average, u16 slot.projected, flag slot.corrected]

/-- The evaluation of a slot whose record has just been written. -/
theorem evaluateSlot_setSlot {w : Work} {p : Nat} {l : SlotLetter} {slot after : Slot} {t : SupplyType}
    (ht : w.spu.types.lookup slot.supplyType = some t) (ha : { slot with state := levelVerdict t slot } = after)
    (cause : SlotCause) (correction : Bool) :
    evaluateSlot p l cause correction (w.setSlot (slotKey p l) slot) =
      if after.state ≠ slot.state ∨ correction = true then
        (evaluated p l slot after w).raise .slotLevel (slotKey p l) (slotNotice p l slot.state after cause)
      else evaluated p l slot after w := by
  have stands : (evaluated p l slot after w).spu.slots.lookup (slotKey p l) = some after := by
    have worked : UnitsWorked (w.setSlot (slotKey p l) after) (evaluated p l slot after w) := by
      unfold evaluated
      split
      · exact unitsWorked_arise _ _ _
      · exact .refl _
    obtain ⟨types, cou, new, due, written, -⟩ := worked.frame
    rw [written]
    exact Table.lookup_put_self _ _ _
  have overwritten : (w.setSlot (slotKey p l) slot).setSlot (slotKey p l) after = w.setSlot (slotKey p l) after := by
    simp only [Work.setSlot, Table.put_put]
  refine Eq.trans ?_ (if_congr Iff.rfl (raiseSlotLevel_of_lookup stands (some slot.state) cause) rfl)
  subst ha
  simp only [evaluateSlot, Work.setSlot_slots, Table.lookup_put_self, Work.setSlot_types, ht, overwritten]
  rfl

/-- What a colour's consumption makes of its slot, where the level state is as it was, and where it changed. -/
theorem consume_of_lookup {w : Work} {p : Nat} {l : SlotLetter} {c after : Slot} {t : SupplyType} (units sides : Nat)
    (hs : w.spu.slots.lookup (slotKey p l) = some c) (ht : w.spu.types.lookup c.supplyType = some t)
    (ha : { c.consume units sides with state := levelVerdict t (c.consume units sides) } = after) :
    consume p units sides l w =
      if after.state ≠ c.state then
        (evaluated p l c after w).raise .slotLevel (slotKey p l) (slotNotice p l c.state after .consumption)
      else evaluated p l c after w := by
  simp only [consume, hs]
  refine (evaluateSlot_setSlot (slot := c.consume units sides) ht ha .consumption false).trans (if_congr ?_ rfl rfl)
  exact or_iff_left Bool.false_ne_true

theorem consume_of_same {w : Work} {p : Nat} {l : SlotLetter} {c after : Slot} {t : SupplyType} {units sides : Nat}
    (hs : w.spu.slots.lookup (slotKey p l) = some c) (ht : w.spu.types.lookup c.supplyType = some t)
    (ha : { c.consume units sides with state := levelVerdict t (c.consume units sides) } = after) (same : after.state = c.state) :
    consume p units sides l w = w.setSlot (slotKey p l) after := by
  rw [consume_of_lookup units sides hs ht ha, if_neg (not_not.mpr same)]
  exact if_neg fun ⟨empty, was⟩ => was (same ▸ empty)

theorem evaluated_of_empty {p : Nat} {l : SlotLetter} {before after : Slot} (w : Work) (empty : after.state = .empty)
    (h : before.state ≠ .empty) : evaluated p l before after w = arise p (.supply l) (w.setSlot (slotKey p l) after) :=
  if_pos ⟨empty, h⟩

theorem evaluated_of_low {p : Nat} {l : SlotLetter} {before after : Slot} (w : Work) (h : after.state ≠ .empty) :
    evaluated p l before after w = w.setSlot (slotKey p l) after := if_neg fun both => h both.1

/-- A correction by the sensor, and the evaluation it brings (R117). -/
theorem correctSlot_of_lookup {w : Work} {p : Nat} {l : SlotLetter} {c after : Slot} {t : SupplyType} {remaining : Nat}
    (ht : w.spu.types.lookup c.supplyType = some t)
    (ha : { Slot.recompute { c with remaining, corrected := true } with
      state := levelVerdict t (Slot.recompute { c with remaining, corrected := true }) } = after) :
    correctSlot p remaining l c w =
      (evaluated p l c after w).raise .slotLevel (slotKey p l) (slotNotice p l c.state after .sensor) :=
  (evaluateSlot_setSlot (slot := Slot.recompute { c with remaining, corrected := true }) ht ha .sensor true).trans
    (if_pos (.inr rfl))

section
variable {w : Work} {p : Nat} {l : SlotLetter} {c : Slot} {t : SupplyType} {reading : Reading}
  (hs : w.spu.slots.lookup (slotKey p l) = some c) (ht : w.spu.types.lookup c.supplyType = some t)
include hs ht

theorem readSensor_of_no_effect
    (h : reading = .ok ∨ reading = .low ∧ c.level ≤ t.lowPercent ∨ reading = .out ∧ c.remaining = 0) :
    readSensor p l reading w = w := by
  rcases h with rfl | ⟨rfl, high⟩ | ⟨rfl, out⟩
  · simp only [readSensor, hs]
  · simp only [readSensor, hs, ht, if_neg (Nat.not_lt.mpr high)]
  · simp only [readSensor, hs, if_pos out]

theorem readSensor_of_effect {remaining : Nat}
    (h : reading = .low ∧ t.lowPercent < c.level ∧ remaining = c.capacity * t.lowPercent / 100
      ∨ reading = .out ∧ c.remaining ≠ 0 ∧ remaining = 0) :
    readSensor p l reading w = orderPoint (correctSlot p remaining l c w) := by
  rcases h with ⟨rfl, high, rfl⟩ | ⟨rfl, some, rfl⟩
  · simp only [readSensor, hs, ht, if_pos high]
  · simp only [readSensor, hs, if_neg some]

end

/-- Settles O54. -/
theorem tonerConsumed : Obligations.TonerConsumed := by
  constructor
  · intro w p units sides l
    refine ⟨fun free => by simp only [consume, free], ?_, fun size sum => by cases size <;> rfl⟩
    intro c t hs ht remaining level projected state used announced
    have verdict : levelVerdict t (c.consume units sides) = state := levelVerdict_eq t _
    have after : { c.consume units sides with state := levelVerdict t (c.consume units sides) } =
        { c.consume units sides with state } := by rw [verdict]
    refine ⟨fun same => consume_of_same hs ht after same, fun changed low => ?_, fun changed empty => ?_⟩
    · refine (consume_of_lookup units sides hs ht after).trans ((if_pos changed).trans ?_)
      rw [evaluated_of_low w (show state ≠ .empty by rw [low]; nofun)]
      rfl
    · refine (consume_of_lookup units sides hs ht after).trans ((if_pos changed).trans ?_)
      rw [evaluated_of_empty w (show state = .empty from empty) fun was => changed (empty.trans was.symm)]
      rfl
  · intro w p l reading
    refine ⟨fun free => by simp only [readSensor, free], fun c t hs ht => ⟨readSensor_of_no_effect hs ht, ?_⟩⟩
    intro remaining effect level projected state corrected caused
    have verdict : levelVerdict t (Slot.recompute { c with remaining, corrected := true }) = state := levelVerdict_eq t _
    rw [readSensor_of_effect hs ht effect, correctSlot_of_lookup ht rfl, verdict]
    rfl

end Sys2Proof.Supply
end

section
/-! PROOF. COU's requests and deadlines, the opening and the resolution of tickets (08), and CLOCK_READ (R173). -/

namespace Sys2Proof.Callouts

open Sys2Proof.Machine Sys2Proof.Safety Sys2Proof.Laws Sys2Proof.People Sys2Proof.Hold Sys2Proof.Refusals

/-! ### The ticket of a number -/

theorem ticket?_eq_none {r : Records} {n : Nat} (h : ∀ t ∈ r.cou.tickets, t.number ≠ n) : ticket? r n = none :=
  List.find?_eq_none.mpr fun t ht found => h t ht (beq_iff_eq.mp found)

theorem ticket?_eq_some {r : Records} {n : Nat} {before after : List Ticket} {t : Ticket}
    (split : r.cou.tickets = before ++ t :: after) (ht : t.number = n) (h : ∀ u ∈ before, u.number ≠ n) :
    ticket? r n = some t := by
  have none_before : before.find? (fun u => u.number == n) = none :=
    List.find?_eq_none.mpr fun u hu found => h u hu (beq_iff_eq.mp found)
  rw [ticket?, split, List.find?_append, none_before, Option.none_or, List.find?_cons_of_pos]
  exact beq_iff_eq.mpr ht

theorem idxOf_number {before after : List Ticket} {t : Ticket} {n : Nat} (ht : t.number = n)
    (h : ∀ u ∈ before, u.number ≠ n) : ((before ++ t :: after).map (·.number)).idxOf n = before.length := by
  have absent : n ∉ before.map (·.number) := fun hn => by
    obtain ⟨u, hu, same⟩ := List.mem_map.mp hn
    exact h u hu same
  rw [List.map_append, List.map_cons, List.idxOf_append_of_notMem absent, ht, List.idxOf_cons_self, List.length_map,
    Nat.add_zero]

/-! ### What the reads carry (R153, R173) -/

theorem answerCalloutRead_of_ticket {r : Records} {n : Nat} {t : Ticket} (hn : n ≠ 0) (ht : ticket? r n = some t) :
    answerCalloutRead n r = answer .ok (ticketFields t ++ [u32 ((r.cou.tickets.map (·.number)).idxOf n)]) := by
  simp only [answerCalloutRead, if_neg hn, ht]

theorem openEntry_encode (t : Ticket) :
    (openEntry t).flatMap Field.encode =
      beBytes 4 t.number ++ beBytes 1 t.printer ++ (kindParts t.kind).flatMap Field.encode ++ beBytes 1 t.state.code
        ++ beBytes 1 t.level ++ (optPart 4 (t.deadline.map (·.value))).flatMap Field.encode
        ++ (optPart 1 (t.kind.slot?.map (fun _ => t.holdsUnit.toNat))).flatMap Field.encode := by
  simp only [openEntry, List.flatMap_append, List.flatMap_cons, List.flatMap_nil, List.append_nil, List.append_assoc]
  rfl

theorem owedEntry_encode (o : OwedCause) :
    (owedEntry o).flatMap Field.encode =
      beBytes 1 o.printer ++ (kindParts o.kind).flatMap Field.encode ++ beBytes 4 o.owed := by
  simp only [owedEntry, List.flatMap_append, List.flatMap_cons, List.flatMap_nil, List.append_nil, List.append_assoc]
  rfl

/-- Settles O55. -/
theorem calloutAndClockRead : Obligations.CalloutAndClockRead := by
  intro s tag n
  refine ⟨fun taken => ⟨fun zero => exec_reads taken rfl rfl (if_pos zero), fun hn free => ?_, fun before t after hn tickets ht h => ?_⟩,
    ?_, fun taken => ⟨(s.fck.roll.map s.fck.secondsUntil).getD 0, ?_⟩⟩
  · refine exec_reads taken rfl rfl ?_
    simp only [answerCalloutRead, if_neg hn, ticket?_eq_none (r := s.toRecords) free, refuse]
  · refine exec_reads taken rfl rfl ((answerCalloutRead_of_ticket hn (ticket?_eq_some (r := s.toRecords) tickets ht h)).trans ?_)
    rw [tickets, idxOf_number ht h, ← ht]
    rfl
  · intro selection taken page
    refine ⟨fun outside => ?_, ?_, ?_⟩
    · match selection, outside with
      | k + 2, _ => exact exec_reads taken rfl rfl rfl
    · intro zero tickets
      subst zero
      refine exec_reads taken rfl rfl ?_
      simp only [answerCalloutList, calloutPage, listField, openEntry_encode]
      rfl
    · intro one entries
      subst one
      refine exec_reads taken rfl rfl ?_
      simp only [answerCalloutList, calloutPage, listField, owedEntry_encode]
      rfl
  · cases hr : s.fck.roll with
    | none =>
      refine ⟨fun d hd => (nomatch hd), exec_reads taken rfl rfl ?_⟩
      simp only [answerClockRead, hr]
      rfl
    | some d =>
      refine ⟨fun e he awake => ?_, exec_reads taken rfl rfl ?_⟩
      · obtain rfl := Option.some.inj he
        simp [Fck.secondsUntil, awake]
      · simp only [answerClockRead, hr]
        rfl

/-! ### Acknowledging, closing and escalating (R146, R147, R150) -/

section
variable {w : Work} {n : Nat} {t : Ticket}

theorem handleCalloutAck_of_none (hn : n ≠ 0) (ht : ticket? w.toRecords n = none) :
    handleCalloutAck n w = w.refuse .noRecord := by
  simp only [handleCalloutAck, if_neg hn, ht]

theorem handleCalloutClose_of_none (hn : n ≠ 0) (ht : ticket? w.toRecords n = none) :
    handleCalloutClose n w = w.refuse .noRecord := by
  simp only [handleCalloutClose, if_neg hn, ht]

variable (hn : n ≠ 0) (ht : ticket? w.toRecords n = some t)
include hn ht

theorem handleCalloutAck_of_dispatched (h : t.state = .dispatched) :
    handleCalloutAck n w =
      (putTicket { t with state := .acknowledged, deadline := some (arm w.now w.cou.workTime) } w).ok
        [u8 t.level, deadlineField (arm w.now w.cou.workTime)] := by
  simp only [handleCalloutAck, if_neg hn, ht, if_neg (not_not.mpr h)]

theorem handleCalloutAck_of_other (h : t.state ≠ .dispatched) : handleCalloutAck n w = w.refuse .state := by
  simp only [handleCalloutAck, if_neg hn, ht, if_pos h]

theorem handleCalloutClose_of_ticket :
    handleCalloutClose n w =
      (endHandling (resolveTicket .closed w t)).ok
        [compound (kindParts t.kind), u8 t.printer, u8 t.state.code, u8 t.level, flag (t.key?.isSome && t.holdsUnit)] := by
  simp only [handleCalloutClose, if_neg hn, ht]

end

section
variable {w : Work} {n : Nat} {t : Ticket} {d : Deadline} (ht : ticket? w.toRecords n = some t) (hd : t.deadline = some d)
include ht hd

theorem escalate_of_due (due : fallen w.now d) :
    escalate t.state n w = evaluateAlarm (dispatch (min (t.level + 1) 3) t w) := by
  have reached : reached? t.deadline w.now = true := by rw [hd]; exact (reached_iff_fallen d w.now).mpr due
  simp only [escalate, ht, reached, and_self, if_true]

theorem escalate_of_not_due (state : TicketState) (waits : ¬ fallen w.now d) : escalate state n w = w := by
  have unreached : ¬ reached? t.deadline w.now = true := by rw [hd]; exact mt (reached_iff_fallen d w.now).mp waits
  simp only [escalate, ht]
  exact if_neg fun due => unreached due.2

end

/-- A change of a type's record leaves COU's. -/
theorem giveBackUnit_cou (key : Nat) (w : Work) : (giveBackUnit key w).cou = w.cou := by
  unfold giveBackUnit
  split <;> rfl

/-! ### Resolution (R149) -/

theorem resolveTicket_of_key {t : Ticket} {key : Nat} (reason : ResolveReason) (w : Work) (hk : t.key? = some key) :
    resolveTicket reason w t = removeTicket t reason t.holdsUnit (if t.holdsUnit then giveBackUnit key w else w) := by
  simp only [resolveTicket, hk]

theorem resolveTicket_of_no_key {t : Ticket} (reason : ResolveReason) (w : Work) (hk : t.key? = none) :
    resolveTicket reason w t = removeTicket t reason false w := by
  simp only [resolveTicket, hk]

theorem resolveTicket_of_no_unit {t : Ticket} (reason : ResolveReason) (w : Work) (h : t.kind.slot? = none ∨ t.holdsUnit = false) :
    resolveTicket reason w t = removeTicket t reason false w := by
  cases hk : t.key? with
  | none => exact resolveTicket_of_no_key reason w hk
  | some key =>
    obtain ⟨l, supply, -⟩ := slot?_of_key? hk
    have noUnit : t.holdsUnit = false := h.resolve_left (by rw [supply]; nofun)
    rw [resolveTicket_of_key reason w hk, noUnit]
    rfl

theorem resolveTicket_of_unit {t : Ticket} {w : Work} {l : SlotLetter} {slot : Slot} {ty : SupplyType} (reason : ResolveReason)
    (hk : t.kind = .supply l) (unit : t.holdsUnit = true) (hs : w.spu.slots.lookup (slotKey t.printer l) = some slot)
    (ht : w.spu.types.lookup slot.supplyType = some ty) :
    resolveTicket reason w t = removeTicket t reason true
      (w.setType slot.supplyType { ty with reservations := ty.reservations.erase (slotKey t.printer l) }) := by
  rw [resolveTicket_of_key reason w (key?_of_supply hk), unit, if_pos rfl, giveBackUnit_of_fitted hs ht]

/-! ### Opening (R143, R145) -/

theorem nextTicket_next {c : Cou} (h : c.tickets.length < 64) :
    nextNumber 4294967295 (c.tickets.map (·.number)) c.lastTicket (nextTicket c) := by
  have next := nextFree_next (top := 4294967295) (c.tickets.map (·.number)) c.lastTicket (by rw [List.length_map]; omega)
  rwa [List.length_map] at next

/-- The work of a new ticket that joins the table (R145 step 2). -/
def joined (n : Nat) (t : Ticket) (w : Work) : Work :=
  { w with cou := { w.cou with tickets := w.cou.tickets ++ [t], lastTicket := n } }

/-- A ticket that has just joined under a new number is replaced at the end of the table. -/
theorem putTicket_joined {n : Nat} {t t' : Ticket} {w : Work} (ht : t.number = n) (ht' : t'.number = n)
    (new : ∀ u ∈ w.cou.tickets, u.number ≠ n) : putTicket t' (joined n t w) = joined n t' w := by
  have others : w.cou.tickets.map (fun u => if u.number = n then t' else u) = w.cou.tickets := by
    conv_rhs => rw [← List.map_id w.cou.tickets]
    exact List.map_congr_left fun u hu => if_neg (new u hu)
  simp only [putTicket, joined, Work.setTickets, List.map_append, List.map_cons, List.map_nil, ht', ht, others, if_true]

theorem dispatch_joined {n level : Nat} {t : Ticket} {w : Work} (ht : t.number = n) (new : ∀ u ∈ w.cou.tickets, u.number ≠ n)
    (u : Ticket) (hu : { u with holdsUnit := t.holdsUnit } = t) :
    dispatch level t (joined n u w) =
      raiseDispatch (dispatchedAt w.cou w.now level t) (joined n (dispatchedAt w.cou w.now level t) w) := by
  have hn : u.number = n := by rw [← ht, ← hu]
  have put := putTicket_joined (t := u) (t' := dispatchedAt w.cou w.now level t) (w := w) hn ht new
  rw [← put]
  rfl

section
variable {w : Work} {p arisen : Nat} {kind : CauseKind}

theorem openTicket_of_no_slot (h : kind.slot? = none) :
    openTicket p kind arisen w =
      dispatch 0 (newTicket (nextTicket w.cou) p kind arisen w.now)
        (joined (nextTicket w.cou) (newTicket (nextTicket w.cou) p kind arisen w.now) w) := by
  have noKey : (newTicket (nextTicket w.cou) p kind arisen w.now).key? = none := key?_of_no_slot h
  simp only [openTicket, noKey]
  rfl

theorem openTicket_of_slot {l : SlotLetter} (h : kind = .supply l) :
    openTicket p kind arisen w =
      (reserveUnit? (slotKey p l) (joined (nextTicket w.cou) (newTicket (nextTicket w.cou) p kind arisen w.now) w)).elim
        (joined (nextTicket w.cou) (newTicket (nextTicket w.cou) p kind arisen w.now) w)
        (dispatch 0 { newTicket (nextTicket w.cou) p kind arisen w.now with holdsUnit := true }) := by
  have key : (newTicket (nextTicket w.cou) p kind arisen w.now).key? = some (slotKey p l) := key?_of_supply h
  simp only [openTicket, key, joined]
  split <;> rename_i reserved <;> rw [reserved] <;> rfl

end

/-- Settles O56. -/
theorem calloutsWorked : Obligations.CalloutsWorked := by
  refine ⟨?refusals, ?requests, ?opening, ?ending, ?resolving⟩
  case refusals =>
    intro s tag n c code taken hc named
    simp only [List.mem_cons, List.not_mem_nil, or_false] at named
    rcases named with rfl | rfl
    · exact ⟨fun zero => exec_refused taken hc (if_pos zero), fun hn free =>
        exec_refused taken hc (handleCalloutAck_of_none (w := s.work) hn (ticket?_eq_none free))⟩
    · exact ⟨fun zero => exec_refused taken hc (if_pos zero), fun hn free =>
        exec_refused taken hc (handleCalloutClose_of_none (w := s.work) hn (ticket?_eq_none free))⟩
  case requests =>
    intro s tag n t hn ht replaced
    obtain ⟨-, number⟩ := ticket?_mem ht
    refine ⟨?_, ?_, ?_⟩
    · intro taken deadline
      refine ⟨fun h => exec_ok taken rfl ((handleCalloutAck_of_dispatched (w := s.work) hn ht h).trans ?_),
        fun h => exec_refused taken rfl (handleCalloutAck_of_other (w := s.work) hn ht h)⟩
      subst number
      rfl
    · intro taken gaveBack freed
      refine exec_ok taken rfl ((handleCalloutClose_of_ticket (w := s.work) hn ht).trans ?_)
      suffices resolved : resolveTicket .closed s.work t =
          (freed.setTickets (s.cou.tickets.filter (fun u => u.number != n))).raise .calloutResolved n
            [u32 n, u8 t.printer, u8 t.kind.code, opt u8 t.kind.detail, u8 5, u8 t.state.code, u8 t.level, flag gaveBack] by
        rw [resolved]
      subst number
      cases hk : t.key? with
      | none =>
        simp only [freed, gaveBack, hk]
        exact resolveTicket_of_no_key .closed s.work hk
      | some key =>
        have table : (if t.holdsUnit then giveBackUnit key s.work else s.work).cou = s.cou := by
          split
          · exact giveBackUnit_cou key s.work
          · rfl
        simp only [freed, gaveBack, hk]
        refine (resolveTicket_of_key .closed s.work hk).trans ?_
        rw [removeTicket, table]
        rfl
    · intro d hd power level time t' escalated
      have due : fallen s.fck.uptime d → escalate t.state n s.work = escalated := by
        intro due
        refine (escalate_of_due (w := s.work) ht hd due).trans ?_
        have ticket : dispatchedAt s.cou s.fck.uptime level t = t' := by
          simp only [dispatchedAt, ackTime_eq]
          rfl
        change evaluateAlarm (raiseDispatch (dispatchedAt s.cou s.fck.uptime level t)
          (putTicket (dispatchedAt s.cou s.fck.uptime level t) s.work)) = _
        rw [ticket]
        subst number
        rfl
      refine ⟨fun h fall => exec_passed power rfl ?_, fun h fall => exec_passed power rfl ?_, fun waits =>
        ⟨exec_passed power rfl (escalate_of_not_due (w := s.work) ht hd .dispatched waits),
          exec_passed power rfl (escalate_of_not_due (w := s.work) ht hd .acknowledged waits)⟩⟩
      · rw [← h]; exact due fall
      · rw [← h]; exact due fall
  case opening =>
    intro w p arisen kind
    refine ⟨fun room => if_pos room, fun full => if_neg (Nat.not_lt.mpr full), fun room => ?_⟩
    have next := nextTicket_next room
    have unused : ∀ t ∈ w.cou.tickets, t.number ≠ nextTicket w.cou := fun t ht same => by
      obtain ⟨-, -, unused, -⟩ := next
      exact unused (same ▸ List.mem_map_of_mem ht)
    obtain ⟨low, high⟩ : 1 ≤ nextTicket w.cou ∧ nextTicket w.cou ≤ 4294967295 := nextFree_bounds (by decide) _ _ _
    refine ⟨nextTicket w.cou, low, high, unused, next, ?_⟩
    intro entered waiting deadline sent
    refine ⟨fun noSlot => ?_, fun l slot ty supply hs ht => ⟨fun free => ?_, fun short => ?_⟩⟩
    · rw [openTicket_of_no_slot noSlot]
      refine (dispatch_joined (n := nextTicket w.cou) rfl unused (newTicket (nextTicket w.cou) p kind arisen w.now) rfl).trans ?_
      have unit : Ticket.holdsUnitField waiting = if kind.slot?.isSome then flag false else .absent := rfl
      simp only [sent, ← unit]
      rfl
    · rw [openTicket_of_slot supply, reserveUnit?_of_free (w := joined _ _ w) hs ht free, Option.elim_some]
      refine (dispatch_joined (n := nextTicket w.cou) (w := w.setType slot.supplyType { ty with reservations := ty.reservations ++ [slotKey p l] })
        rfl unused (newTicket (nextTicket w.cou) p kind arisen w.now) rfl).trans ?_
      have unit : Ticket.holdsUnitField { waiting with holdsUnit := true } = if kind.slot?.isSome then flag true else .absent := rfl
      simp only [sent, ← unit]
      rfl
    · rw [openTicket_of_slot supply, reserveUnit?_of_short (w := joined _ _ w) hs ht short]
      rfl
  case ending =>
    intro w o rest
    refine ⟨rfl, fun room => if_pos room, fun full => if_neg (Nat.not_lt.mpr full), ?_, rfl⟩
    rw [evaluateAlarm, alarmCondition_eq]
  case resolving =>
    intro w t reason p
    refine ⟨rfl, ?_⟩
    intro resolved
    exact ⟨resolveTicket_of_no_unit reason w, fun l slot ty supply unit hs ht =>
      resolveTicket_of_unit reason supply unit hs ht⟩

end Sys2Proof.Callouts
end

section
/-! PROOF. The clock: CLOCK_SET, the roll deadline and several day rolls (R169 to R172), and what one day roll writes and tells
(R31, R33, R34, R114, R116). -/

namespace Sys2Proof.Laws

open Sys2Proof.Machine Sys2Proof.Safety

/-! ### The clock's part of a day roll (R170, R171) -/

/-- The clock and the accounts as a day roll leaves them before QTU's and SPU's work (R170 step 1, R171). -/
def rolledClock (w : Work) : Work :=
  { w with fck := { w.fck with dayIndex := (w.fck.dayIndex + 1) % 65536, countdown := w.fck.countdown - 1 } }

/-- A day roll as its period roll, where the countdown runs out, and the work of QTU and SPU. -/
def rolledPeriod (w : Work) : Work :=
  let rolled := periodRoll ((w.fck.dayIndex + 1) % 65536) (rolledClock w)
  { rolled with fck := { rolled.fck with countdown := rolled.qtu.periodLength } }

theorem dayRoll_of_period {w : Work} (h : w.fck.countdown ≤ 1) : dayRoll w = supplyDayRoll (quotaDayRoll (rolledPeriod w)) := by
  have out : (rolledClock w).fck.countdown = 0 := Nat.sub_eq_zero_of_le h
  change supplyDayRoll (quotaDayRoll (if (rolledClock w).fck.countdown = 0 then rolledPeriod w else rolledClock w)) = _
  rw [if_pos out]

theorem dayRoll_of_day {w : Work} (h : ¬ w.fck.countdown ≤ 1) : dayRoll w = supplyDayRoll (quotaDayRoll (rolledClock w)) := by
  have left : ¬ (rolledClock w).fck.countdown = 0 := Nat.sub_ne_zero_of_lt (Nat.not_le.mp h)
  change supplyDayRoll (quotaDayRoll (if (rolledClock w).fck.countdown = 0 then rolledPeriod w else rolledClock w)) = _
  rw [if_neg left]

theorem rolledPeriod_fck (w : Work) :
    (rolledPeriod w).fck =
      { w.fck with dayIndex := (w.fck.dayIndex + 1) % 65536, countdown := w.qtu.periodLength } := by
  have kept := kept_periodRoll ((w.fck.dayIndex + 1) % 65536) (rolledClock w)
  have length : (periodRoll ((w.fck.dayIndex + 1) % 65536) (rolledClock w)).qtu = w.qtu := congrArg (·.1) kept.settings
  simp only [rolledPeriod, kept.clock, length]
  rfl

theorem supplyDayRoll_quotaDayRoll_fck (w : Work) : (supplyDayRoll (quotaDayRoll w)).fck = w.fck :=
  ((kept_quotaDayRoll w).trans (kept_supplyDayRoll _)).clock

theorem dayRoll_fck (w : Work) :
    (dayRoll w).fck =
      { w.fck with
        dayIndex := (w.fck.dayIndex + 1) % 65536
        countdown := if w.fck.countdown ≤ 1 then w.qtu.periodLength else w.fck.countdown - 1 } := by
  by_cases h : w.fck.countdown ≤ 1
  · rw [dayRoll_of_period h, supplyDayRoll_quotaDayRoll_fck, rolledPeriod_fck, if_pos h]
  · rw [dayRoll_of_day h, supplyDayRoll_quotaDayRoll_fck, if_neg h]
    rfl

theorem dayRolls_eq_iterate (n : Nat) (w : Work) : dayRolls n w = Nat.iterate dayRoll n w := by
  induction n generalizing w with
  | zero => rfl
  | succ n ih => exact ih _

/-- The clock after several day rolls: uptime and offset stand. -/
theorem dayRolls_fck (n : Nat) (w : Work) :
    ∃ index countdown, (dayRolls n w).fck = { w.fck with dayIndex := index, countdown } := (rolled_dayRolls n w).clock

/-- The period rolls among several day rolls: the first where the countdown has run to 0, and then each period length later. -/
theorem periodRollsAmong_eq {length : Nat} (hl : 1 ≤ length) (n countdown : Nat) (hc : 1 ≤ countdown) :
    (n < countdown → periodRollsAmong length n countdown = 0)
    ∧ (countdown ≤ n → periodRollsAmong length n countdown = (n - countdown) / length + 1) := by
  induction n generalizing countdown with
  | zero => exact ⟨fun _ => rfl, fun h => absurd h (by omega)⟩
  | succ n ih =>
    by_cases last : countdown - 1 = 0
    · obtain rfl : countdown = 1 := by omega
      refine ⟨fun h => absurd h (by omega), fun _ => ?_⟩
      obtain ⟨short, long⟩ := ih length hl
      rw [periodRollsAmong, if_pos last, Nat.add_sub_cancel]
      rcases Nat.lt_or_ge n length with h | h
      · rw [short h, Nat.div_eq_of_lt h]
      · rw [long h, Nat.div_eq_sub_div (by omega) h]
    · obtain ⟨short, long⟩ := ih (countdown - 1) (by omega)
      rw [periodRollsAmong, if_neg last]
      refine ⟨fun h => short (by omega), fun h => ?_⟩
      rw [long (by omega)]
      congr 2
      omega

end Sys2Proof.Laws

namespace Sys2Proof.Clock

open Sys2Proof.Machine Sys2Proof.Safety Sys2Proof.Laws Sys2Proof.People Sys2Proof.Hold

/-! ### CLOCK_SET and the roll deadline (R170, R172) -/

theorem midnightWaits_iff (f : Fck) :
    f.midnightWaits = true ↔ ∃ d, f.roll = some d ∧ fallen f.uptime d ∧ ((d.value : Int) + f.offset) % 86400 = 0 := by
  unfold Fck.midnightWaits
  split
  · rename_i free; simp [free]
  · rename_i d held
    rw [Bool.and_eq_true, reached_iff_fallen, decide_eq_true_iff, held]
    constructor
    · exact fun ⟨fall, whole⟩ => ⟨d, rfl, fall, whole⟩
    · rintro ⟨e, he, fall, whole⟩
      obtain rfl := Option.some.inj he
      exact ⟨fall, whole⟩

theorem jumps_iff (old new : Nat) : jumps old new = true ↔ old + 172800 < new ∨ new + 172800 < old := by
  rw [jumps, Bool.or_eq_true, decide_eq_true_iff, decide_eq_true_iff]
  exact Iff.rfl

/-- The clock as an accepted CLOCK_SET sets it, before the day rolls (R172). -/
def moved (wall : Nat) (w : Work) : Work :=
  { w with fck := { w.fck with offset := (wall : Int) - w.fck.uptime, clockSet := true } }

theorem setClock_eq (wall rolls : Nat) (countdown : Option Nat) (w : Work) {index left : Nat}
    (h : (dayRolls rolls (moved wall w)).fck = { (moved wall w).fck with dayIndex := index, countdown := left }) :
    setClock wall rolls countdown w =
      Work.ok
        { dayRolls rolls (moved wall w) with
          fck := { (dayRolls rolls (moved wall w)).fck with
            roll := rollAt w.fck.uptime ((wall : Int) - w.fck.uptime)
              (nextMidnight (min (w.fck.uptime + ((wall : Int) - w.fck.uptime)).toNat 1099511627775))
            countdown := selected 1 62 (dayRolls rolls (moved wall w)).fck.countdown countdown } }
        [u40 wall, s48 ((wall : Int) - w.fck.uptime), u32 rolls, u32 (periodRollsAmong w.qtu.periodLength rolls w.fck.countdown),
          u16 (dayRolls rolls (moved wall w)).fck.dayIndex,
          u8 (selected 1 62 (dayRolls rolls (moved wall w)).fck.countdown countdown),
          opt deadlineField (rollAt w.fck.uptime ((wall : Int) - w.fck.uptime)
            (nextMidnight (min (w.fck.uptime + ((wall : Int) - w.fck.uptime)).toNat 1099511627775)))] := by
  simp only [setClock, armRoll, Fck.wall, h, show dayRolls rolls { w with fck := { w.fck with
    offset := (wall : Int) - w.fck.uptime, clockSet := true } } = dayRolls rolls (moved wall w) from rfl]
  rfl

section
variable {wall : Nat} {countdown : Option Nat} {w : Work}

theorem handleClockSet_of_first (hw : wall ≤ 1099511627775) (h : w.fck.clockSet = false) :
    handleClockSet wall countdown w = setClock wall 0 countdown w := by
  have inside : ¬ Config.maxWall < wall := Nat.not_lt.mpr hw
  simp only [handleClockSet, if_neg inside, h, Bool.not_false, if_true]

theorem handleClockSet_of_jump (hw : wall ≤ 1099511627775) (h : w.fck.clockSet = true)
    (jump : w.fck.wall + 172800 < wall ∨ wall + 172800 < w.fck.wall) :
    handleClockSet wall countdown w = (w, answer .clockJump [u40 w.fck.wall]) := by
  have inside : ¬ Config.maxWall < wall := Nat.not_lt.mpr hw
  simp only [handleClockSet, if_neg inside, h, Bool.not_true, Bool.false_eq_true, if_false, (jumps_iff _ _).mpr jump, if_true]

theorem handleClockSet_of_move (hw : wall ≤ 1099511627775) (h : w.fck.clockSet = true)
    (near : ¬ (w.fck.wall + 172800 < wall ∨ wall + 172800 < w.fck.wall)) :
    handleClockSet wall countdown w = setClock wall (rollsOfMove w.fck wall) countdown w := by
  have inside : ¬ Config.maxWall < wall := Nat.not_lt.mpr hw
  simp only [handleClockSet, if_neg inside, h, Bool.not_true, Bool.false_eq_true, if_false, if_neg (mt (jumps_iff _ _).mp near)]

end

theorem rollFalls_of_due {w : Work} {d : Deadline} (hd : w.fck.roll = some d) (due : fallen w.now d) :
    rollFalls w = dayRoll { w with
      fck := { w.fck with roll := rollAt w.fck.uptime w.fck.offset ((d.value : Int) + 86400 + w.fck.offset).toNat } } := by
  simp only [rollFalls, hd, if_pos ((reached_iff_fallen d w.now).mpr due), Nat.cast_add]
  rfl

theorem rollFalls_of_not_due {w : Work} {d : Deadline} (hd : w.fck.roll = some d) (waits : ¬ fallen w.now d) :
    rollFalls w = w := by
  simp only [rollFalls, hd, if_neg (mt (reached_iff_fallen d w.now).mp waits)]

/-- Settles O57. -/
theorem clockSetAndRolled : Obligations.ClockSetAndRolled := by
  refine ⟨dayRolls_eq_iterate, fun length n countdown hl hc => periodRollsAmong_eq hl n countdown hc, ?_⟩
  intro s tag wall countdown set
  constructor
  · intro taken
    have accepted : ∀ rolls, handleClockSet wall countdown s.work = setClock wall rolls countdown s.work → set rolls := by
      intro rolls h
      obtain ⟨index, left, clock⟩ := dayRolls_fck rolls (moved wall s.work)
      exact exec_ok taken rfl (h.trans (setClock_eq wall rolls countdown s.work clock))
    refine ⟨fun outside => exec_refused taken rfl (if_pos outside),
      fun hw first => accepted 0 (handleClockSet_of_first hw first), fun hw running => ⟨?_, fun back near => ?_, ?_⟩⟩
    · exact fun jump => exec_replied taken rfl (handleClockSet_of_jump (w := s.work) hw running jump)
    · refine accepted 0 ((handleClockSet_of_move (w := s.work) hw running (by
        change ¬ (s.fck.wall + 172800 < wall ∨ wall + 172800 < s.fck.wall); omega)).trans ?_)
      rw [rollsOfMove, if_pos (show wall < s.work.fck.wall from back)]
    · intro forward near waits
      have move : handleClockSet wall countdown s.work =
          setClock wall (wall / 86400 - s.fck.wall / 86400 + s.fck.midnightWaits.toNat) countdown s.work := by
        refine (handleClockSet_of_move (w := s.work) hw running (by
          change ¬ (s.fck.wall + 172800 < wall ∨ wall + 172800 < s.fck.wall); omega)).trans ?_
        rw [rollsOfMove, if_neg (show ¬ wall < s.work.fck.wall from Nat.not_lt.mpr forward)]
        rfl
      refine ⟨fun none => accepted _ (move.trans ?_), fun one => accepted _ (move.trans ?_)⟩
      · rw [Bool.eq_false_iff.mpr (mt (midnightWaits_iff s.fck).mp none)]
        rfl
      · rw [(midnightWaits_iff s.fck).mpr one]
        rfl
  · intro d hd power
    exact ⟨fun waits => exec_passed power rfl (rollFalls_of_not_due (w := s.work) hd waits),
      fun due => exec_passed power rfl (rollFalls_of_due (w := s.work) hd due)⟩

end Sys2Proof.Clock
end

section
/-! PROOF. What one day roll writes and tells (R27, R31, R33, R34, R114, R116, R118): the accounts and the slots are taken one after
another, each by its own record alone. -/

namespace Sys2Proof.Clock

open Sys2Proof.Machine Sys2Proof.Safety Sys2Proof.Laws Sys2Proof.Supply Sys2Proof.Printers

/-! ### Notices told -/

/-- From the first work to the second notices of these kinds alone are raised, and of one kind just these. -/
def Tells (kinds : List NoticeKind) (k : NoticeKind) (notes : List Raised) (w v : Work) : Prop :=
  ∃ new, v.raised = w.raised ++ new ∧ (∀ r ∈ new, r.kind ∈ kinds) ∧ new.filter (fun r => decide (r.kind = k)) = notes

section
variable {kinds : List NoticeKind} {k : NoticeKind} {notes notes' : List Raised} {u v w : Work}

theorem Tells.of_eq (h : v.raised = w.raised) : Tells kinds k [] w v := ⟨[], by rw [h, List.append_nil], by simp, rfl⟩

theorem Tells.trans (h : Tells kinds k notes u v) (h' : Tells kinds k notes' v w) : Tells kinds k (notes ++ notes') u w := by
  obtain ⟨new, raised, within, told⟩ := h
  obtain ⟨new', raised', within', told'⟩ := h'
  refine ⟨new ++ new', by rw [raised', raised, List.append_assoc], fun r hr => ?_, by rw [List.filter_append, told, told']⟩
  exact (List.mem_append.mp hr).elim (within r) (within' r)

theorem Tells.of_other {other : NoticeKind} (within : other ∈ kinds) (h : other ≠ k)
    (told : ∃ new, v.raised = w.raised ++ new ∧ ∀ r ∈ new, r.kind = other) : Tells kinds k [] w v := by
  obtain ⟨new, raised, same⟩ := told
  refine ⟨new, raised, fun r hr => same r hr ▸ within, List.filter_eq_nil_iff.mpr fun r hr is => h ?_⟩
  exact (same r hr).symm.trans (of_decide_eq_true is)

theorem Tells.of_same (within : k ∈ kinds) (raised : v.raised = w.raised ++ notes) (same : ∀ r ∈ notes, r.kind = k) :
    Tells kinds k notes w v :=
  ⟨notes, raised, fun r hr => same r hr ▸ within, List.filter_eq_self.mpr fun r hr => decide_eq_true (same r hr)⟩

/-- Where one kind alone is told, the notices are those. -/
theorem Tells.raised_of_single (h : Tells [k] k notes w v) : v.raised = w.raised ++ notes := by
  obtain ⟨new, raised, within, rfl⟩ := h
  rw [raised, List.filter_eq_self.mpr fun r hr => decide_eq_true (List.mem_singleton.mp (within r hr))]

end

/-! ### Folding over a table -/

/-- An operation that takes one record by its index, taken over all records of a table by rising index. -/
theorem foldl_entries {α : Type} {T : Work → Table α} {f : Work → Nat → Work} {g : α → α} {note : Nat → α → List Raised}
    {kinds : List NoticeKind} {k : NoticeKind} {Inv : Work → Prop}
    (one : ∀ w i a, Inv w → (T w).lookup i = some a →
      T (f w i) = (T w).put i (g a) ∧ Inv (f w i) ∧ Tells kinds k (note i a) w (f w i))
    (rest before : Table α) (w : Work) (table : T w = before ++ rest)
    (rising : (before ++ rest).Pairwise (fun a b => a.1 < b.1)) (inv : Inv w) :
    T ((rest.map (·.1)).foldl f w) = before ++ rest.map (fun e => (e.1, g e.2)) ∧ Inv ((rest.map (·.1)).foldl f w)
      ∧ Tells kinds k (rest.flatMap (fun e => note e.1 e.2)) w ((rest.map (·.1)).foldl f w) := by
  induction rest generalizing before w with
  | nil => exact ⟨table, inv, .of_eq rfl⟩
  | cons e rest ih =>
    obtain ⟨i, a⟩ := e
    have lower : ∀ e ∈ before, e.1 < i := fun e he => (List.pairwise_append.mp rising).2.2 e he (i, a) List.mem_cons_self
    obtain ⟨put, inv', tells⟩ := one w i a inv (by rw [table]; exact lookup_append lower)
    have table' : T (f w i) = (before ++ [(i, g a)]) ++ rest := by
      rw [put, table, put_append lower, List.append_assoc, List.singleton_append]
    have rising' : ((before ++ [(i, g a)]) ++ rest).Pairwise (fun a b => a.1 < b.1) := by
      have indices := List.pairwise_map.mpr rising
      rw [List.map_append, List.map_cons] at indices
      refine List.pairwise_map.mp ?_
      rw [List.map_append, List.map_append, List.map_cons, List.map_nil, List.append_assoc, List.singleton_append]
      exact indices
    obtain ⟨final, inv'', tells'⟩ := ih (before ++ [(i, g a)]) (f w i) table' rising' inv'
    refine ⟨?_, inv'', tells.trans tells'⟩
    rw [List.map_cons, List.foldl_cons, final, List.map_cons, List.append_assoc, List.singleton_append]

theorem lookup_map {α β : Type} (t : Table α) (f : α → β) (i : Nat) :
    Table.lookup (t.map (fun e => (e.1, f e.2))) i = (t.lookup i).map f := by
  induction t with
  | nil => rfl
  | cons e rest ih =>
    obtain ⟨k, a⟩ := e
    simp only [List.map_cons, Table.lookup, ih]
    split <;> rfl

/-! ### The accounts and pools at a period roll (R33, R34) -/

/-- An account as a period roll leaves it, before its warning is evaluated. -/
def replenishedAccount (a : Account) : Account := { a with balance := replenished a.balance a.allotment, usedPeriod := 0 }

/-- An account as a period roll leaves it. -/
def periodAccount (a : Account) : Account := { replenishedAccount a with warned := warnStateAfter (replenishedAccount a) }

theorem replenishAccount_of_lookup {w : Work} {i : Nat} {a : Account} (ha : w.adir.accounts.lookup i = some a) :
    replenishAccount w i =
      { w with
        adir := { w.adir with accounts := w.adir.accounts.put i (periodAccount a) }
        raised := w.raised ++ warningRaised i (replenishedAccount a) } := by
  rw [replenishAccount, updateAccount_of_lookup ha]
  exact evaluateWarning_of_put (a := replenishedAccount a) rfl

theorem periodRoll_eq {w : Work} (sound : TablesSound w.toRecords) (index : Nat) :
    periodRoll index w =
      { w with
        adir := { w.adir with
          accounts := w.adir.accounts.map (fun e => (e.1, periodAccount e.2))
          pools := w.adir.pools.map (fun e => (e.1, replenishPool e.2)) }
        raised := w.raised ++ w.adir.accounts.flatMap (fun e => warningRaised e.1 (replenishedAccount e.2)) ++
          [{ kind := .periodRolled, key := 0
             body := [u16 index, u32 w.adir.accounts.length, u32 w.adir.pools.length] }] } := by
  obtain ⟨accounts, ⟨t, raised, written⟩, tells⟩ :=
    foldl_entries (T := fun v => v.adir.accounts) (f := replenishAccount) (g := periodAccount)
      (note := fun i a => warningRaised i (replenishedAccount a)) (kinds := [.quotaWarning]) (k := .quotaWarning)
      (Inv := fun v => ∃ accounts raised, v = { w with adir := { w.adir with accounts }, raised })
      (by
        rintro v i a ⟨t, raised, rfl⟩ ha
        rw [replenishAccount_of_lookup ha]
        refine ⟨rfl, ⟨_, _, rfl⟩, .of_same (List.mem_singleton.mpr rfl) rfl fun r hr => ?_⟩
        unfold warningRaised at hr
        split at hr
        · cases hr
        · rw [List.mem_singleton.mp hr])
      w.adir.accounts [] w rfl sound.accounts.rising ⟨_, _, rfl⟩
  have told := tells.raised_of_single
  rw [periodRoll, Table.indices]
  rw [written] at accounts told ⊢
  simp only [List.nil_append] at accounts told
  subst accounts told
  simp only [Work.raise, List.length_map]

/-! ### The slots at a day roll (R114, R116, R118) -/

/-- A slot as a day roll leaves it. -/
def rolledSlot (spu : Spu) (c : Slot) : Slot :=
  { c.rollDay spu.shift with
    state := ((spu.types.lookup c.supplyType).map (fun t => levelVerdict t (c.rollDay spu.shift))).getD c.state }

/-- SLOT_LEVEL of a day roll: raised where the level state changes. -/
def rolledNotice (spu : Spu) (key : Nat) (c : Slot) : List Raised :=
  if (rolledSlot spu c).state = c.state then []
  else [{ kind := .slotLevel, key, body := slotNotice (key / 4) (letterOfKey key) c.state (rolledSlot spu c) .dayRoll }]

theorem letterOfKey_code (key : Nat) : (letterOfKey key).code = key % 4 := by
  have : key % 4 < 4 := Nat.mod_lt _ (by decide)
  unfold letterOfKey
  generalize key % 4 = m at this ⊢
  match m, this with
  | 0, _ => rfl
  | 1, _ => rfl
  | 2, _ => rfl
  | 3, _ => rfl

theorem slotKey_letterOfKey (key : Nat) : slotKey (key / 4) (letterOfKey key) = key := by
  rw [slotKey, letterOfKey_code]
  omega

theorem openTicket_raised (p : Nat) (kind : CauseKind) (arisen : Nat) (w : Work) :
    ∃ new, (openTicket p kind arisen w).raised = w.raised ++ new ∧ ∀ r ∈ new, r.kind = .calloutDispatch := by
  have sent : ∀ (level : Nat) (t : Ticket) (v : Work), v.raised = w.raised →
      ∃ new, (dispatch level t v).raised = w.raised ++ new ∧ ∀ r ∈ new, r.kind = .calloutDispatch := by
    intro level t v same
    refine ⟨[_], congrArg (· ++ [_]) same, fun r hr => ?_⟩
    rw [List.mem_singleton.mp hr]
  unfold openTicket
  dsimp only
  split
  · exact sent _ _ _ rfl
  · split
    · exact ⟨[], (List.append_nil _).symm, by simp⟩
    · rename_i reserved
      obtain ⟨i, t, -, -, rfl⟩ := reserveUnit?_eq reserved
      exact sent _ _ _ rfl

theorem arise_raised (p : Nat) (kind : CauseKind) (w : Work) :
    ∃ new, (arise p kind w).raised = w.raised ++ new ∧ ∀ r ∈ new, r.kind = .calloutDispatch := by
  unfold arise
  split
  · exact openTicket_raised p kind _ w
  · exact ⟨[], (List.append_nil _).symm, by simp⟩

/-- The kinds of notice that SPU's work at a day roll raises. -/
def rollKinds : List NoticeKind := [.slotLevel, .reorderDue, .calloutDispatch]

theorem tells_raise (w : Work) (key : Nat) (body : List Field) :
    Tells rollKinds .slotLevel [{ kind := .slotLevel, key, body }] w (w.raise .slotLevel key body) :=
  .of_same (by decide) rfl fun r hr => by rw [List.mem_singleton.mp hr]

theorem tells_evaluated (p : Nat) (l : SlotLetter) (before after : Slot) (w : Work) :
    Tells rollKinds .slotLevel [] w (evaluated p l before after w) := by
  unfold evaluated
  split
  · exact .of_other (by decide) (by decide) (arise_raised p (.supply l) (w.setSlot (slotKey p l) after))
  · exact .of_eq rfl

theorem unitsWorked_evaluated (p : Nat) (l : SlotLetter) (before after : Slot) (w : Work) :
    UnitsWorked (w.setSlot (slotKey p l) after) (evaluated p l before after w) := by
  unfold evaluated
  split
  · exact unitsWorked_arise _ _ _
  · exact .refl _

/-- A slot's verdict does not depend on the reservations of its type. -/
theorem rolledSlot_worked {w v : Work} (h : UnitsWorked w v) (c : Slot) : rolledSlot v.spu c = rolledSlot w.spu c := by
  obtain ⟨l, found⟩ := h.types c.supplyType
  obtain ⟨types, cou, new, due, written, -⟩ := h.frame
  have shift : v.spu.shift = w.spu.shift := by rw [written]
  rw [rolledSlot, rolledSlot, found, shift, Option.map_map]
  rfl

/-- A day roll's work on one slot. -/
theorem rollSlot_of_lookup {w : Work} {key : Nat} {c : Slot} (hc : w.spu.slots.lookup key = some c) :
    UnitsWorked (w.setSlot key (rolledSlot w.spu c)) (rollSlot w key)
      ∧ Tells rollKinds .slotLevel (rolledNotice w.spu key c) w (rollSlot w key) := by
  have hk := slotKey_letterOfKey key
  have worked : rollSlot w key =
      orderPoint (evaluateSlot (key / 4) (letterOfKey key) .dayRoll false (w.setSlot key (c.rollDay w.spu.shift))) := by
    simp only [rollSlot, hc]
  have ordered : ∀ v, Tells rollKinds .slotLevel [] v (orderPoint v) := fun v =>
    .of_other (by decide) (by decide) (orderPoint_raised v)
  rw [worked]
  cases ht : w.spu.types.lookup c.supplyType with
  | none =>
    have unjudged : evaluateSlot (key / 4) (letterOfKey key) .dayRoll false (w.setSlot key (c.rollDay w.spu.shift)) =
        w.setSlot key (c.rollDay w.spu.shift) := by
      have free : w.spu.types.lookup (c.rollDay w.spu.shift).supplyType = none := ht
      simp only [evaluateSlot, hk, Work.setSlot_slots, Table.lookup_put_self, Work.setSlot_types, free]
    have slot : rolledSlot w.spu c = c.rollDay w.spu.shift := by rw [rolledSlot, ht]; rfl
    have same : (c.rollDay w.spu.shift).state = c.state := rfl
    rw [unjudged, rolledNotice, slot, if_pos same]
    exact ⟨unitsWorked_orderPoint _, .trans (.of_eq rfl) (ordered _)⟩
  | some t =>
    have judged : { c.rollDay w.spu.shift with state := levelVerdict t (c.rollDay w.spu.shift) } = rolledSlot w.spu c := by
      rw [rolledSlot, ht]; rfl
    have written := evaluateSlot_setSlot (p := key / 4) (l := letterOfKey key) (slot := c.rollDay w.spu.shift) ht judged
      .dayRoll false
    have units := unitsWorked_evaluated (key / 4) (letterOfKey key) (c.rollDay w.spu.shift) (rolledSlot w.spu c) w
    have tells := tells_evaluated (key / 4) (letterOfKey key) (c.rollDay w.spu.shift) (rolledSlot w.spu c) w
    have kept : (c.rollDay w.spu.shift).state = c.state := rfl
    rw [hk, kept] at written
    rw [hk] at units
    rw [written]
    by_cases same : (rolledSlot w.spu c).state = c.state
    · rw [if_neg (show ¬ ((rolledSlot w.spu c).state ≠ c.state ∨ false = true) by simp [same]), rolledNotice, if_pos same]
      exact ⟨units.trans (unitsWorked_orderPoint _), tells.trans (ordered _)⟩
    · rw [if_pos (show (rolledSlot w.spu c).state ≠ c.state ∨ false = true from .inl same), rolledNotice, if_neg same]
      refine ⟨(units.trans (.of_raise _ (by decide) _ _)).trans (unitsWorked_orderPoint _), ?_⟩
      exact (tells.trans (tells_raise _ _ _)).trans (ordered _)

/-- SPU's work at a day roll. -/
theorem supplyDayRoll_slots {w : Work} (sound : TablesSound w.toRecords) :
    (supplyDayRoll w).spu.slots = w.spu.slots.map (fun e => (e.1, rolledSlot w.spu e.2))
      ∧ (supplyDayRoll w).adir = w.adir
      ∧ Tells rollKinds .slotLevel (w.spu.slots.flatMap (fun e => rolledNotice w.spu e.1 e.2)) w (supplyDayRoll w) := by
  obtain ⟨slots, ⟨adir, -⟩, tells⟩ :=
    foldl_entries (T := fun v => v.spu.slots) (f := rollSlot) (g := rolledSlot w.spu)
      (note := rolledNotice w.spu) (kinds := rollKinds) (k := .slotLevel)
      (Inv := fun v => v.adir = w.adir ∧ ∀ c, rolledSlot v.spu c = rolledSlot w.spu c)
      (by
        rintro v key c ⟨adir, same⟩ hc
        obtain ⟨worked, tells⟩ := rollSlot_of_lookup hc
        have note : rolledNotice v.spu key c = rolledNotice w.spu key c := by rw [rolledNotice, rolledNotice, same]
        have later : ∀ c, rolledSlot (rollSlot v key).spu c = rolledSlot w.spu c := fun c =>
          (rolledSlot_worked worked c).trans (same c)
        obtain ⟨types, cou, new, due, written, -⟩ := worked.frame
        rw [note] at tells
        refine ⟨?_, ⟨?_, later⟩, tells⟩
        · rw [written, ← same c]; rfl
        · rw [written]; exact adir)
      w.spu.slots [] w rfl sound.slots.rising ⟨rfl, fun _ => rfl⟩
  exact ⟨slots, adir, tells⟩

/-! ### The day roll as a whole -/

/-- An account as QTU's day roll leaves it (R31). -/
def peakedAccount (a : Account) : Account := { a with peak := max a.peak a.today, today := 0 }

/-- PERIOD_ROLLED of a day roll (R34). -/
def periodNotice (w : Work) : Raised where
  kind := .periodRolled
  key := 0
  body := [u16 ((w.fck.dayIndex + 1) % 65536), u32 w.adir.accounts.length, u32 w.adir.pools.length]

theorem rolledPeriod_eq {w : Work} (sound : TablesSound w.toRecords) :
    rolledPeriod w =
      { w with
        fck := (rolledPeriod w).fck
        adir := { w.adir with
          accounts := w.adir.accounts.map (fun e => (e.1, periodAccount e.2))
          pools := w.adir.pools.map (fun e => (e.1, replenishPool e.2)) }
        raised := w.raised ++ (w.adir.accounts.flatMap (fun e => warningRaised e.1 (replenishedAccount e.2)) ++ [periodNotice w]) } := by
  have clock : TablesSound (rolledClock w).toRecords := { sound with }
  rw [rolledPeriod, periodRoll_eq clock, ← List.append_assoc]
  rfl

/-- SPU's part of a day roll, and what it leaves of QTU's, over the work as the clock and the period roll leave it. -/
theorem dayRoll_after {w mid : Work} {fck : Fck} {adir : Adir} {front : List Raised}
    (roll : dayRoll w = supplyDayRoll (quotaDayRoll mid)) (written : mid = { w with fck, adir, raised := w.raised ++ front })
    (midSound : TablesSound mid.toRecords) :
    (dayRoll w).spu.slots = w.spu.slots.map (fun e => (e.1, rolledSlot w.spu e.2))
      ∧ (dayRoll w).adir = { adir with accounts := adir.accounts.map (fun e => (e.1, peakedAccount e.2)) }
      ∧ ∃ back, (dayRoll w).raised = w.raised ++ (front ++ back) ∧ (∀ r ∈ back, r.kind ∈ rollKinds)
        ∧ back.filter (fun r => decide (r.kind = .slotLevel)) = w.spu.slots.flatMap (fun e => rolledNotice w.spu e.1 e.2) := by
  subst written
  obtain ⟨slots, accounts, back, raised, within, told⟩ := supplyDayRoll_slots ((kept_quotaDayRoll _).tables midSound)
  rw [← roll] at slots accounts raised
  exact ⟨slots, accounts, back, raised.trans (List.append_assoc _ _ _), within, told⟩

theorem lookup_of_rolled {α β : Type} {low high : Nat} {t : Table α} (sound : Rising low high t) (f : α → β) {e : Nat × α}
    (he : e ∈ t) : Table.lookup (t.map (fun e => (e.1, f e.2))) e.1 = some (f e.2) := by
  rw [lookup_map, sound.lookup_of_mem he]
  rfl

/-- The notices of a list of entries, each of which tells at most one. -/
theorem flatMap_eq_filterMap {α β : Type} {l : List α} {f : α → List β} {g : α → Option β} (h : ∀ a ∈ l, f a = (g a).toList) :
    l.flatMap f = l.filterMap g := by
  rw [List.filterMap_eq_flatMap_toList]
  exact List.flatMap_congr h

/-- The average after a day roll (R114). -/
theorem rollDay_average (shift : Nat) (c : Slot) :
    (c.seeded = false → (c.rollDay shift).average = c.today)
      ∧ (c.seeded = true →
          ((c.rollDay shift).average : Int) = max 0 (c.average +
            (if ((c.today : Int) - c.average).tdiv (2 ^ shift) ≠ 0 ∨ c.today = c.average
              then ((c.today : Int) - c.average).tdiv (2 ^ shift) else if c.average < c.today then 1 else -1))) := by
  refine ⟨fun h => by simp [Slot.rollDay, h], fun h => ?_⟩
  have level : (c.today : Int) - c.average = 0 ↔ c.today = c.average := by omega
  have above : (0 : Int) < (c.today : Int) - c.average ↔ c.average < c.today := by omega
  simp only [Slot.rollDay, h, if_true, smoothingStep, level, above]
  rw [Int.ofNat_toNat, max_comm]

theorem rolledSlot_of_type {spu : Spu} {c : Slot} {t : SupplyType} (ht : spu.types.lookup c.supplyType = some t) :
    rolledSlot spu c = { c.rollDay spu.shift with state := levelVerdict t (c.rollDay spu.shift) } := by
  rw [rolledSlot, ht]
  rfl

/-- The notices of one kind among those of a day roll. -/
theorem filter_none {k : NoticeKind} {l : List Raised} {kinds : List NoticeKind} (within : ∀ r ∈ l, r.kind ∈ kinds)
    (h : k ∉ kinds) : l.filter (fun r => decide (r.kind = k)) = [] :=
  List.filter_eq_nil_iff.mpr fun r hr is => h (of_decide_eq_true is ▸ within r hr)

theorem warnings_kind {l : Table Account} : ∀ r ∈ l.flatMap (fun e => warningRaised e.1 (replenishedAccount e.2)),
    r.kind = .quotaWarning := by
  intro r hr
  obtain ⟨e, -, hr⟩ := List.mem_flatMap.mp hr
  unfold warningRaised at hr
  split at hr
  · cases hr
  · rw [List.mem_singleton.mp hr]

/-- Settles O58. -/
theorem dayRolled : Obligations.DayRolled := by
  intro w sound rolls replenish
  obtain ⟨mid, fck, adir, front, roll, written, midSound, day, period⟩ : ∃ mid fck adir front,
      dayRoll w = supplyDayRoll (quotaDayRoll mid) ∧ mid = { w with fck, adir, raised := w.raised ++ front }
        ∧ TablesSound mid.toRecords ∧ (¬ rolls → adir = w.adir ∧ front = [])
        ∧ (rolls → adir = { w.adir with
            accounts := w.adir.accounts.map (fun e => (e.1, periodAccount e.2))
            pools := w.adir.pools.map (fun e => (e.1, replenishPool e.2)) }
          ∧ front = w.adir.accounts.flatMap (fun e => warningRaised e.1 (replenishedAccount e.2)) ++ [periodNotice w]) := by
    by_cases h : rolls
    · have kept := (kept_periodRoll ((w.fck.dayIndex + 1) % 65536) (rolledClock w)).tables { sound with }
      exact ⟨rolledPeriod w, _, _, _, dayRoll_of_period h, rolledPeriod_eq sound, { kept with },
        fun stays => absurd h stays, fun _ => ⟨rfl, rfl⟩⟩
    · exact ⟨rolledClock w, (rolledClock w).fck, w.adir, [], dayRoll_of_day h, by rw [List.append_nil]; rfl, { sound with },
        fun _ => ⟨rfl, rfl⟩, fun rolls => absurd rolls h⟩
  obtain ⟨slots, accounts, back, raised, within, told⟩ := dayRoll_after roll written midSound
  refine ⟨dayRoll_fck w, fun stays => ?_, fun out => ?_, fun key c t hc ht => ?_, front ++ back, raised, ?_, ?_, ?_, ?_⟩
  · rw [accounts, (day stays).1]
    rfl
  · obtain ⟨rfl, rfl⟩ := period out
    refine ⟨by rw [accounts], fun i a ha => ?_, fun i p hp => ?_⟩
    · intro balance available
      rw [accounts]
      simp only [lookup_map, ha, Option.map_some]
      have state : warnStateAfter (replenishedAccount a) = _ := warnStateAfter_eq _
      rw [periodAccount, state]
      rfl
    · rw [accounts]
      simp only [lookup_map, hp, Option.map_some]
      rfl
  · obtain ⟨unseeded, seeded⟩ := rollDay_average w.spu.shift c
    refine ⟨(c.rollDay w.spu.shift).average, unseeded, seeded, ?_⟩
    intro projected state
    have verdict : levelVerdict t (c.rollDay w.spu.shift) = state := levelVerdict_eq t _
    rw [slots, lookup_map, hc, Option.map_some, rolledSlot_of_type ht, verdict]
    rfl
  · intro r hr
    rcases List.mem_append.mp hr with hr | hr
    · by_cases h : rolls
      · rw [(period h).2] at hr
        rcases List.mem_append.mp hr with hr | hr
        · rw [warnings_kind r hr]; decide
        · rw [List.mem_singleton.mp hr, periodNotice]; simp
      · rw [(day h).2] at hr; cases hr
    · have rolled := within r hr
      simp only [rollKinds, List.mem_cons, List.not_mem_nil, or_false] at rolled ⊢
      tauto
  · rw [List.filter_append, filter_none within (by decide), List.append_nil]
    by_cases h : rolls
    · rw [(period h).2, List.filter_append,
        filter_none (kinds := [.quotaWarning]) (fun r hr => List.mem_singleton.mpr (warnings_kind r hr)) (by decide), if_pos h]
      rfl
    · rw [(day h).2, if_neg h]
      rfl
  · rw [List.filter_append, filter_none within (by decide), List.append_nil]
    by_cases h : rolls
    · obtain ⟨rfl, rfl⟩ := period h
      have last : [periodNotice w].filter (fun r => decide (r.kind = .quotaWarning)) = [] := rfl
      rw [List.filter_append, last, List.append_nil,
        List.filter_eq_self.mpr fun r hr => decide_eq_true (warnings_kind r hr)]
      refine flatMap_eq_filterMap fun e he => ?_
      have found : (dayRoll w).adir.accounts.lookup e.1 = some (peakedAccount (periodAccount e.2)) := by
        rw [accounts]
        simp only [lookup_map, sound.accounts.lookup_of_mem he, Option.map_some]
      rw [found]
      by_cases same : warnStateAfter (replenishedAccount e.2) = e.2.warned
      · refine (if_pos same).trans (Eq.symm ?_)
        refine (congrArg Option.toList (if_pos same)).trans ?_
        rfl
      · refine (if_neg same).trans (Eq.symm ?_)
        refine (congrArg Option.toList (if_neg same)).trans ?_
        rfl
    · obtain ⟨rfl, rfl⟩ := day h
      refine (List.filterMap_eq_nil_iff.mpr fun e he => ?_).symm
      have found : (dayRoll w).adir.accounts.lookup e.1 = some (peakedAccount e.2) := by
        rw [accounts]
        exact lookup_of_rolled sound.accounts peakedAccount he
      rw [found]
      exact if_pos rfl
  · have early : front.filter (fun r => decide (r.kind = .slotLevel)) = [] := by
      by_cases h : rolls
      · rw [(period h).2]
        refine filter_none (kinds := [.quotaWarning, .periodRolled]) (fun r hr => ?_) (by decide)
        rcases List.mem_append.mp hr with hr | hr
        · rw [warnings_kind r hr]; decide
        · rw [List.mem_singleton.mp hr, periodNotice]; simp
      · rw [(day h).2]; rfl
    rw [List.filter_append, early, told, List.nil_append]
    refine flatMap_eq_filterMap fun e he => ?_
    rw [slots, lookup_of_rolled sound.slots (rolledSlot w.spu) he]
    by_cases same : (rolledSlot w.spu e.2).state = e.2.state
    · refine (if_pos same).trans (Eq.symm ?_)
      refine (congrArg Option.toList (if_pos same)).trans ?_
      rfl
    · refine (if_neg same).trans ((congrArg Option.toList (if_neg same)).trans ?_).symm
      rw [slotNotice, letterOfKey_code]
      rfl

end Sys2Proof.Clock
end

section
/-! PROOF. Retirement and reseating (09): accounts, pools and supply types, and the two ways in which a printer leaves its place. -/

namespace Sys2Proof.Retirement

open Sys2Proof.Machine Sys2Proof.Safety Sys2Proof.Laws Sys2Proof.People Sys2Proof.Hold Sys2Proof.Release Sys2Proof.Printers
  Sys2Proof.Supply Sys2Proof.Clock

/-! ### Accounts, pools and types (R159 to R161, R165) -/

section
variable {w : Work} {i : Nat} {a : Account}

theorem handleAccountRetire_of_retiring {accepted : Nat} (hi : i < 4096) (ha : w.adir.accounts.lookup i = some a)
    (h : a.state = .retiring accepted) : handleAccountRetire i w = w.refuse .retiring := by
  simp only [handleAccountRetire, if_neg (inAccounts hi), ha, h]

theorem closeAccountVisit_hq (i : Nat) (reason : CloseReason) (w : Work) : (closeAccountVisit i reason w).hq = w.hq := by
  unfold closeAccountVisit
  split
  · rfl
  · exact closeVisit_hq _ _ _

theorem handleAccountRetire_of_standing (hi : i < 4096) (ha : w.adir.accounts.lookup i = some a)
    (h : a.state = .active ∨ a.state = .suspended) {jobs : List Nat} {u : Work}
    (hu : u = closeAccountVisit i .account (w.setAccount i { a with state := .retiring w.now }))
    (hj : jobs = (w.hq.lists.list i).filter (isHeld w.toRecords)) :
    handleAccountRetire i w =
      (completeAccount i (jobs.foldl (fun w n => removeJob n .ownerRetired 0 w) u)).ok
        [u32 jobs.length, u8 a.inFlight, opt u8 a.openVisit, flag (a.inFlight == 0)] := by
  have taken : handleAccountRetire i w = retireAccount i a w := by
    obtain h | h := h <;> simp only [handleAccountRetire, if_neg (inAccounts hi), ha, h]
  have table : u.hq = w.hq := by rw [hu, closeAccountVisit_hq, Work.setAccount_hq]
  have same : isHeld u.toRecords = isHeld w.toRecords := funext fun n => by simp only [isHeld, table]
  have held : heldJobs u.toRecords i = jobs := by rw [hj, heldJobs, jobList, table, same]
  rw [taken, retireAccount, ← hu, held]
  rfl

section
variable {accepted : Nat} (ha : w.adir.accounts.lookup i = some a) (h : a.state = .retiring accepted)
include ha h

theorem completeAccount_of_flying (flies : 0 < a.inFlight) : completeAccount i w = w := by
  simp only [completeAccount, ha, h, if_neg flies.ne']

theorem completeAccount_of_no_pool (down : a.inFlight = 0) (hp : a.pool = none) :
    completeAccount i w =
      ((w.setBadges (w.adir.badges.filter (fun b => b.account != i))).dropAccount i).raise .recordRetired i
        [u8 0, u16 i, u32 accepted, u32 w.fck.uptime, s32 a.balance, .absent] := by
  simp only [completeAccount, ha, h, if_pos down, hp, retiredNotice, Nat.zero_mul, Nat.zero_add]
  rfl

theorem completeAccount_of_pool {p : Nat} {q : Pool} (down : a.inFlight = 0) (hp : a.pool = some p)
    (hq : w.adir.pools.lookup p = some q) :
    completeAccount i w =
      (((w.setBadges (w.adir.badges.filter (fun b => b.account != i))).setPool p
        { q with members := q.members - 1 }).dropAccount i).raise .recordRetired i
        [u8 0, u16 i, u32 accepted, u32 w.fck.uptime, s32 a.balance, .absent] := by
  have member : (w.setBadges (w.adir.badges.filter (fun b => b.account != i))).updatePool p
      (fun q => { q with members := q.members - 1 }) = _ :=
    updatePool_of_lookup (w := w.setBadges (w.adir.badges.filter (fun b => b.account != i))) hq _
  simp only [completeAccount, ha, h, if_pos down, hp, retiredNotice, Nat.zero_mul, Nat.zero_add, member]
  rfl

end

end

section
variable {w : Work} {i : Nat}

theorem handlePoolRetire_of_members {p : Pool} (hi : i < 64) (hp : w.adir.pools.lookup i = some p) (h : 0 < p.members) :
    handlePoolRetire i w = w.refuse .state := by
  simp only [handlePoolRetire, if_neg (inPools hi), hp, if_pos h]

theorem handlePoolRetire_of_empty {p : Pool} (hi : i < 64) (hp : w.adir.pools.lookup i = some p) (h : p.members = 0) :
    handlePoolRetire i w =
      ((w.dropPool i).raise .recordRetired (16777216 + i)
        [u8 1, u16 i, u32 w.fck.uptime, u32 w.fck.uptime, s32 p.balance, .absent]).ok [s32 p.balance] := by
  simp only [handlePoolRetire, if_neg (inPools hi), hp, h, Nat.lt_irrefl, if_false, retiredNotice, Nat.one_mul]
  rfl

theorem slotsOf_pos_iff (r : Records) (i : Nat) : 0 < slotsOf r i (fun _ => true) ↔ ∃ e ∈ r.spu.slots, e.2.supplyType = i := by
  simp only [slotsOf, List.length_pos_iff_exists_mem, List.mem_filter, Bool.and_true, beq_iff_eq]

variable {t : SupplyType} (hi : i < 32) (ht : w.spu.types.lookup i = some t) (active : t.state = .active)
include hi ht active

theorem handleSupplyRetire_of_used
    (h : (∃ e ∈ w.spu.slots, e.2.supplyType = i) ∨ t.reservations ≠ [] ∨ 0 < t.onOrder) :
    handleSupplyRetire i w = w.refuse .state :=
  (onType_of_active hi ht active _).trans
    (if_pos (h.imp (slotsOf_pos_iff w.toRecords i).mpr (Or.imp_left List.length_pos_of_ne_nil)))

theorem handleSupplyRetire_of_unused (unfitted : ∀ e ∈ w.spu.slots, e.2.supplyType ≠ i) (free : t.reservations = [])
    (arrived : t.onOrder = 0) :
    handleSupplyRetire i w =
      ((w.dropType i).raise .recordRetired (50331648 + i)
        [u8 3, u16 i, u32 w.fck.uptime, u32 w.fck.uptime, .absent, u16 t.onHand]).ok [u16 t.onHand] := by
  refine (onType_of_active hi ht active _).trans ((if_neg ?_).trans rfl)
  rintro (used | reserved | ordered)
  · obtain ⟨e, he, same⟩ := (slotsOf_pos_iff w.toRecords i).mp used
    exact unfitted e he same
  · rw [SupplyType.reserved, free] at reserved; exact Nat.lt_irrefl 0 reserved
  · rw [arrived] at ordered; exact Nat.lt_irrefl 0 ordered

end

/-- Settles O59. -/
theorem recordsRetired : Obligations.RecordsRetired := by
  intro s tag i
  refine ⟨fun a accepted taken hi ha h => exec_refused taken rfl (handleAccountRetire_of_retiring (w := s.work) hi ha h),
    ?account, fun w a accepted ha h => ⟨completeAccount_of_flying ha h, completeAccount_of_no_pool ha h,
      fun p q => completeAccount_of_pool ha h⟩, fun p taken hi hp => ⟨fun h => ?_, fun h => ?_⟩,
    fun t taken hi ht active => ⟨fun h => ?_, fun unfitted free arrived => ?_⟩⟩
  case account =>
    intro a taken hi ha h held w
    exact exec_ok taken rfl (handleAccountRetire_of_standing (w := s.work) hi ha h rfl rfl)
  · exact exec_refused taken rfl (handlePoolRetire_of_members (w := s.work) hi hp h)
  · exact exec_ok taken rfl (handlePoolRetire_of_empty (w := s.work) hi hp h)
  · exact exec_refused taken rfl (handleSupplyRetire_of_used (w := s.work) hi ht active h)
  · exact exec_ok taken rfl (handleSupplyRetire_of_unused (w := s.work) hi ht active unfitted free arrived)

/-! ### Printers (R121, R162, R164, R166) -/

/-- A printer without another, that was its sibling (R162 step 1). -/
def withoutSibling (i : Nat) (q : Printer) : Printer := { q with sibling := if q.sibling = some i then none else q.sibling }

theorem clearSiblings_eq (i : Nat) (w : Work) :
    clearSiblings i w =
      { w with ptb := { w.ptb with printers := w.ptb.printers.map (fun e => (e.1, withoutSibling i e.2)) } } := by
  have same : ∀ q : Printer, (if q.sibling = some i then { q with sibling := none } else q) = withoutSibling i q := by
    intro q
    unfold withoutSibling
    split <;> rfl
  simp only [clearSiblings, same]

theorem map_put {α β : Type} (t : Table α) (f : α → β) (i : Nat) (v : α) :
    ((t.put i v).map (fun e => (e.1, f e.2)) : Table β) = Table.put (t.map (fun e => (e.1, f e.2))) i (f v) := by
  induction t with
  | nil => rfl
  | cons e rest ih =>
    obtain ⟨k, a⟩ := e
    simp only [Table.put, List.map_cons]
    split
    · rfl
    · split
      · rfl
      · rw [List.map_cons, ih]

/-- The retiring printer's own sibling may be cleared as it is written or with the others'. -/
theorem clearSiblings_setPrinter (i : Nat) (q : Printer) (w : Work) :
    clearSiblings i (w.setPrinter i q) = clearSiblings i (w.setPrinter i (withoutSibling i q)) := by
  have twice : withoutSibling i (withoutSibling i q) = withoutSibling i q := by
    unfold withoutSibling
    by_cases h : q.sibling = some i <;> simp [h]
  simp only [clearSiblings_eq, Work.setPrinter, map_put, twice]

theorem clearSiblings_lookup (i : Nat) (q : Printer) (w : Work) :
    (clearSiblings i (w.setPrinter i q)).ptb.printers.lookup i = some (withoutSibling i q) := by
  rw [clearSiblings_eq, lookup_map, Work.setPrinter_printers, Table.lookup_put_self]
  rfl

theorem lookup_filter {α : Type} (t : Table α) (p : Nat → Bool) (j : Nat) :
    Table.lookup (t.filter (fun e => p e.1)) j = if p j = true then t.lookup j else none := by
  induction t with
  | nil => simp [Table.lookup]
  | cons e rest ih =>
    obtain ⟨k, a⟩ := e
    by_cases hk : p k = true
    · simp only [List.filter_cons, hk, if_true, Table.lookup, ih]
      split
      · subst k; rw [if_pos hk]
      · rfl
    · simp only [List.filter_cons, hk, Bool.false_eq_true, if_false, Table.lookup, ih]
      by_cases hj : k = j
      · subst hj; rw [if_neg hk, if_neg hk]
      · rw [if_neg hj]

theorem unfitSlots_lookup (i p : Nat) (l : SlotLetter) (w : Work) :
    (unfitSlots i w).spu.slots.lookup (slotKey p l) = if p = i then none else w.spu.slots.lookup (slotKey p l) := by
  refine (lookup_filter w.spu.slots (fun key => key / 4 != i) (slotKey p l)).trans ?_
  rw [slotKey_div]
  by_cases h : p = i <;> simp [h]

/-- PRINTER_STATE as a retirement or a reseat raises it: the state entered shows no cause (R98). -/
theorem raisePrinterState_of_no_cause {w : Work} {i : Nat} {q : Printer} (hq : w.ptb.printers.lookup i = some q) (previous : Nat)
    (h : q.state = .absent ∨ ∃ accepted, q.state = .retiring accepted) :
    raisePrinterState i previous w =
      w.raise .printerState i
        [u8 i, u8 previous, u8 q.state.code, .bytes [0, 0, 0], flag q.present, flag q.restartUsed, u8 q.live.toNat,
          u8 q.latched.toNat] := by
  have cause : compound (causeParts q.state) = .bytes [0, 0, 0] := by
    obtain h | ⟨accepted, h⟩ := h <;> rw [h] <;> rfl
  simp only [raisePrinterState, hq, printerStateFields, cause]
  rfl

section
variable {w : Work} {i : Nat} {q : Printer} (hi : i < 96) (hq : w.ptb.printers.lookup i = some q)
include hi hq

theorem handlePrinterRetire_of_retiring {accepted : Nat} (h : q.state = .retiring accepted) :
    handlePrinterRetire i w = w.refuse .retiring := by
  simp only [handlePrinterRetire, if_neg (inPrinters hi), hq, h]

theorem handlePrinterReseat_of_retiring {accepted : Nat} (h : q.state = .retiring accepted) :
    handlePrinterReseat i w = w.refuse .state := by
  simp only [handlePrinterReseat, if_neg (inPrinters hi), hq, h]

theorem handlePrinterRetire_of_running (h : ∀ accepted, q.state ≠ .retiring accepted) :
    handlePrinterRetire i w = retirePrinter i q w := by
  cases hs : q.state with
  | retiring accepted => exact absurd hs (h accepted)
  | _ => simp only [handlePrinterRetire, if_neg (inPrinters hi), hq, hs]

theorem handlePrinterReseat_of_running (h : ∀ accepted, q.state ≠ .retiring accepted) :
    handlePrinterReseat i w = reseat i q w := by
  cases hs : q.state with
  | retiring accepted => exact absurd hs (h accepted)
  | _ => simp only [handlePrinterReseat, if_neg (inPrinters hi), hq, hs]

/-- A key at an IDLE terminal (R64, R163). -/
theorem idle_key_refused {c : Instr} {tag : Tag} (idle : w.rlu.visits.lookup i = none)
    (hc : c ∈ [.next tag i, .previous tag i, .select tag i, .selectAll tag i, .delete tag i, .done tag i]) :
    requestWork c w = w.refuse .state := by
  simp only [List.mem_cons, List.not_mem_nil, or_false] at hc
  rcases hc with rfl | rfl | rfl | rfl | rfl | rfl
  · exact onVisit_of_idle hi hq idle
  · exact onVisit_of_idle hi hq idle
  · exact onVisit_of_idle hi hq idle
  · exact onVisit_of_idle hi hq idle
  · exact onVisit_of_idle hi hq idle
  · simp only [requestWork, handleDone, if_neg (inPrinters hi), hq, idle]

end

section
variable {w : Work} {i : Nat} {p : Printer} {accepted : Nat} (hp : w.ptb.printers.lookup i = some p)
  (h : p.state = .retiring accepted)
include hp h

theorem completePrinter_of_flying (flies : inFlightList w.toRecords i ≠ []) : completePrinter i w = w := by
  simp only [completePrinter, hp, h, if_neg (mt List.isEmpty_iff.mp flies)]

theorem completePrinter_of_down (down : inFlightList w.toRecords i = []) :
    completePrinter i w =
      ((w.dropPrinter i).raise .printerState i
          [u8 i, u8 6, u8 0, .absent, .absent, .absent, .absent, .absent]).raise .recordRetired (33554432 + i)
        [u8 2, u16 i, u32 accepted, u32 w.fck.uptime, .absent, .absent] := by
  simp only [completePrinter, hp, h, if_pos (List.isEmpty_iff.mpr down)]
  rfl

end

/-- Settles O60. -/
theorem printerRetiredAndReseated : Obligations.PrinterRetiredAndReseated := by
  constructor
  · intro s tag i q accepted c code taken hc hi hq retiring
    refine ⟨fun named => ?_, ?_, fun named idle => exec_refused taken hc (idle_key_refused (w := s.work) hi hq idle named)⟩
    · simp only [List.mem_cons, List.not_mem_nil, or_false] at named
      rcases named with rfl | rfl | rfl
      · exact exec_refused taken hc (handlePrinterRetire_of_retiring (w := s.work) hi hq retiring)
      · exact exec_refused taken hc (handleServiceWithdraw_of_retiring (w := s.work) hi hq retiring)
      · exact exec_refused taken hc (handleServiceReturn_of_retiring (w := s.work) hi hq retiring)
    · rintro rfl
      exact exec_refused taken hc (handlePrinterReseat_of_retiring (w := s.work) hi hq retiring)
  · intro s tag i q hi hq runs idle announced
    refine ⟨?retire, ?reseat, fun w floor => ⟨clearSiblings_eq i w, rfl, fun p l => unfitSlots_lookup i p l w⟩,
      fun w p accepted hp h => ⟨completePrinter_of_flying hp h, completePrinter_of_down hp h⟩⟩
    case retire =>
      intro taken q' gone w flying
      refine exec_ok taken rfl ((handlePrinterRetire_of_running (w := s.work) hi hq runs).trans ?_)
      have told : raisePrinterState i q.state.code (clearSiblings i (s.work.setPrinter i
          (cancelDeadlines { q with state := .retiring s.work.now }))) =
          announced q' (clearSiblings i (s.work.setPrinter i q')) := by
        rw [raisePrinterState_of_no_cause (clearSiblings_lookup _ _ _) q.state.code (.inr ⟨s.fck.uptime, rfl⟩),
          clearSiblings_setPrinter]
        rfl
      change Work.ok (completePrinter i (endHandling (unfitSlots i (resolveWhere _ .retired (dropOwed _ (retargetJobs i q.floor
        (closeVisit i .service (raisePrinterState i q.state.code _)))))))) _ = _
      rw [told]
      rfl
    case reseat =>
      intro taken q' w
      refine exec_ok taken rfl ((handlePrinterReseat_of_running (w := s.work) hi hq runs).trans ?_)
      have told : raisePrinterState i q.state.code (s.work.setPrinter i (reseatedPrinter q)) =
          announced q' (s.work.setPrinter i q') :=
        raisePrinterState_of_no_cause (q := q') (Table.lookup_put_self _ _ _) q.state.code (.inl rfl)
      rw [reseat, told]
      rfl

end Sys2Proof.Retirement
end

section
/-! PROOF. The agreement of the blocks' records is no invariant of every step. It asks that each entry of the in-flight table belong
to a printer that is not FREE, but not that such an entry be more than an empty list; and a printer with an empty list leaves its
table as it retires, while the entry stays. -/

namespace Sys2Proof.Steps

open Sys2Proof.Machine Sys2Proof.Safety Sys2Proof.Laws

/-- A printer that stands ABSENT. -/
def lonePrinter : Printer where
  state := .absent
  present := false
  floor := 0
  sibling := none
  colourCapable := false
  duplex := false
  largeTray := false
  modelGroup := 0
  slotCount := 1
  heartbeatTimeout := 60
  autoReturn := false
  restartPermitted := false
  restartUsed := false
  live := 0
  latched := 0
  qualification := []
  heartbeat := none
  absence := none
  restart := none
  restartCredit := none

/-- One printer, whose in-flight list is written out as an empty list. -/
def emptyListed : Records :=
  { Records.cold with
    ptb := { Records.cold.ptb with printers := [(0, lonePrinter)] }
    rlu := { Records.cold.rlu with inFlight := [(0, [])] } }

/-- Its retirement is asked for. -/
def retireAsked : State :=
  { State.reset with
    toRecords := emptyListed
    lnk := { State.reset.lnk with requests := [.request (.printerRetire [] 0)] }
    pending := [.printerRetire [] 0] }

theorem tablesSound_emptyListed : TablesSound emptyListed :=
  { tablesSound_cold with
    printers := ⟨List.pairwise_singleton _ _, by simp [emptyListed]⟩
    inFlight := ⟨List.pairwise_singleton _ _, by simp [emptyListed]⟩ }

theorem countsBounded_emptyListed : CountsBounded emptyListed := ⟨by simp [emptyListed], Nat.zero_le _⟩

theorem flightAgrees_emptyListed : FlightAgrees emptyListed := by
  have down : ∀ i, inFlightList emptyListed i = [] := by
    intro i
    by_cases h : i = 0 <;> simp [inFlightList, emptyListed, Table.list, Table.lookup, h, eq_comm]
  constructor <;> simp [down] <;> simp [emptyListed, Records.cold, lonePrinter, isRetiring]

theorem recordsAgree_emptyListed : RecordsAgree emptyListed :=
  { members := { recordsAgree_cold.members with }
    reserved := { recordsAgree_cold.reserved with }
    jobs := { recordsAgree_cold.jobs with }
    flight := flightAgrees_emptyListed
    visits := by constructor <;> simp [emptyListed, Records.cold] }

/-- What the retirement leaves: no printer, and the entry. -/
theorem step_retireAsked :
    ∃ t, step retireAsked = .next t ∧ t.ptb.printers = [] ∧ t.rlu.inFlight = [(0, [])] :=
  ⟨_, rfl, by decide, by decide⟩

/-- Refutes O5: an entry of the in-flight table with an empty list, which the invariants allow, outlives its printer. -/
theorem not_stepKeepsTablesAndCounts : ¬ Obligations.StepKeepsTablesAndCounts := by
  intro keeps
  obtain ⟨t, stepped, printers, inFlight⟩ := step_retireAsked
  obtain ⟨-, -, agree⟩ := keeps retireAsked t tablesSound_emptyListed countsBounded_emptyListed stepped
  obtain ⟨q, hq, -⟩ := (agree recordsAgree_emptyListed).flight.free (0, []) (by rw [inFlight]; exact List.mem_singleton.mpr rfl)
  rw [printers] at hq
  cases hq

end Sys2Proof.Steps
end

section
/-! PROOF. The operations that leave jobs alone: no job, in-flight list or visit changes, nor an account's state, reserved points or
in-flight count, and START is not raised. -/

namespace Sys2Proof.Laws

open Sys2Proof.Machine Sys2Proof.Safety Sys2Proof.Clock

/-- What of an account concerns its jobs in flight. -/
structure Standing where
  state : AccountState
  reserved : Nat
  inFlight : Nat

def standing (a : Account) : Standing := ⟨a.state, a.reserved, a.inFlight⟩

/-- Two account tables that agree in it. -/
def SameStanding (t u : Table Account) : Prop := ∀ i, (u.lookup i).map standing = (t.lookup i).map standing

theorem SameStanding.refl (t : Table Account) : SameStanding t t := fun _ => rfl

theorem SameStanding.trans {t u v : Table Account} (h : SameStanding t u) (k : SameStanding u v) : SameStanding t v :=
  fun i => (k i).trans (h i)

theorem SameStanding.put {t : Table Account} {i : Nat} {a a' : Account} (ha : t.lookup i = some a)
    (h : standing a' = standing a) : SameStanding t (t.put i a') := by
  intro k
  rw [Table.lookup_put]
  split
  · subst k; rw [ha, Option.map_some, Option.map_some, h]
  · rfl

theorem SameStanding.map (t : Table Account) {f : Account → Account} (h : ∀ a, standing (f a) = standing a) :
    SameStanding t (t.map (fun e => (e.1, f e.2))) := by
  intro k
  rw [lookup_map, Option.map_map]
  exact congrArg (Option.map · (t.lookup k)) (funext h)

/-- Work that leaves jobs alone. -/
structure Aside (w v : Work) : Prop where
  uptime : v.fck.uptime = w.fck.uptime
  visits : v.rlu.visits = w.rlu.visits
  flight : v.rlu.inFlight = w.rlu.inFlight
  jobs : v.hq.jobs = w.hq.jobs
  accounts : SameStanding w.adir.accounts v.adir.accounts
  told : ∃ new, v.raised = w.raised ++ new ∧ ∀ r ∈ new, r.kind ≠ .start

section
variable {u v w : Work}

/-- Work that reaches neither the jobs nor the accounts, and raises nothing. -/
theorem Aside.of_fields (uptime : v.fck.uptime = w.fck.uptime)
    (rlu : v.rlu = w.rlu) (hq : v.hq = w.hq) (accounts : v.adir.accounts = w.adir.accounts) (raised : v.raised = w.raised) :
    Aside w v :=
  ⟨uptime, by rw [rlu], by rw [rlu], by rw [hq], accounts ▸ .refl _, [], by rw [raised, List.append_nil], by simp⟩

theorem Aside.refl (w : Work) : Aside w w := .of_fields rfl rfl rfl rfl rfl

theorem Aside.trans (h : Aside u v) (k : Aside v w) : Aside u w := by
  obtain ⟨new, raised, quiet⟩ := h.told
  obtain ⟨new', raised', quiet'⟩ := k.told
  exact ⟨k.uptime.trans h.uptime, k.visits.trans h.visits, k.flight.trans h.flight, k.jobs.trans h.jobs,
    h.accounts.trans k.accounts, new ++ new', by rw [raised', raised, List.append_assoc],
    fun r hr => (List.mem_append.mp hr).elim (quiet r) (quiet' r)⟩

theorem Aside.foldl {β : Type} {f : Work → β → Work} (h : ∀ w x, Aside w (f w x)) (l : List β) (w : Work) :
    Aside w (l.foldl f w) := by
  induction l generalizing w with
  | nil => exact .refl w
  | cons x rest ih => exact (h w x).trans (ih _)

theorem Aside.of_raise (w : Work) {k : NoticeKind} (h : k ≠ .start) (key : Nat) (body : List Field) :
    Aside w (w.raise k key body) :=
  ⟨rfl, rfl, rfl, rfl, .refl _, [⟨k, key, body⟩], rfl, fun _ hr => List.mem_singleton.mp hr ▸ h⟩

theorem UnitsWorked.aside (h : UnitsWorked w v) : Aside w v := by
  obtain ⟨types, cou, new, due, rfl, quiet⟩ := h.frame
  exact ⟨rfl, rfl, rfl, rfl, .refl _, new, rfl, quiet⟩

end

/-! ### Units, tickets and the estimate -/

theorem aside_endHandling (w : Work) : Aside w (endHandling w) := (unitsWorked_endHandling w).aside

theorem aside_arise (p : Nat) (kind : CauseKind) (w : Work) : Aside w (arise p kind w) :=
  (unitsWorked_arise p kind w).aside

theorem aside_orderPoint (w : Work) : Aside w (orderPoint w) := (unitsWorked_orderPoint w).aside

theorem aside_resolveWhere (p : Ticket → Bool) (reason : ResolveReason) (w : Work) : Aside w (resolveWhere p reason w) :=
  (unitsWorked_resolveWhere p reason w).aside

theorem aside_dropOwed (p : OwedCause → Bool) (w : Work) : Aside w (dropOwed p w) :=
  (unitsWorked_dropOwed p w).aside

theorem aside_endFault (p : Nat) (reason : ResolveReason) (w : Work) : Aside w (endFault p reason w) :=
  (aside_dropOwed _ _).trans (aside_resolveWhere _ _ _)

theorem aside_escalate (state : TicketState) (n : Nat) (w : Work) : Aside w (escalate state n w) := by
  unfold escalate
  split
  · exact .refl w
  · split
    · exact ((unitsWorked_dispatch _ _ _).aside).trans
        ((unitsWorked_evaluateAlarm _).aside)
    · exact .refl w

theorem aside_setSlot (w : Work) (key : Nat) (s : Slot) : Aside w (w.setSlot key s) := .of_fields rfl rfl rfl rfl rfl

theorem aside_raiseSlotLevel (p : Nat) (l : SlotLetter) (previous : Option LevelState) (cause : SlotCause) (w : Work) :
    Aside w (raiseSlotLevel p l previous cause w) := by
  unfold raiseSlotLevel
  split
  · exact .refl w
  · exact .of_raise w (by decide) _ _

theorem aside_evaluateSlot (p : Nat) (l : SlotLetter) (cause : SlotCause) (correction : Bool) (w : Work) :
    Aside w (evaluateSlot p l cause correction w) := by
  unfold evaluateSlot
  split
  · exact .refl w
  · rename_i s hs
    split
    · exact .refl w
    · have judged : ∀ s' : Slot, ∀ b : Prop, [Decidable b] →
          Aside w (if b then arise p (.supply l) (w.setSlot (slotKey p l) s') else w.setSlot (slotKey p l) s') := by
        intro s' b _
        split
        · exact (aside_setSlot _ _ s').trans (aside_arise _ _ _)
        · exact aside_setSlot _ _ s'
      dsimp only
      split
      · exact (judged _ _).trans (aside_raiseSlotLevel _ _ _ _ _)
      · exact judged _ _

theorem aside_consume (p units sides : Nat) (l : SlotLetter) (w : Work) : Aside w (consume p units sides l w) := by
  unfold consume
  split
  · exact .refl w
  · exact (aside_setSlot _ _ _).trans (aside_evaluateSlot _ _ _ _ _)

theorem aside_applyConsumption (p : Nat) (size : SizeClass) (mono colour : Nat) (v : Coverage) (w : Work) :
    Aside w (applyConsumption p size mono colour v w) :=
  (((aside_consume _ _ _ _ _).trans (aside_consume _ _ _ _ _)).trans (aside_consume _ _ _ _ _)).trans (aside_consume _ _ _ _ _)

theorem aside_overdueFalls (i : Nat) (w : Work) : Aside w (overdueFalls i w) := by
  unfold overdueFalls
  split
  · exact .refl w
  · rename_i t ht
    have written : ∀ t', Aside w (w.setType i t') := fun t' =>
      .of_fields rfl rfl rfl rfl rfl
    split
    · exact .refl w
    · split
      · split
        · exact (written _).trans (.of_raise _ (by decide) _ _)
        · exact written _
      · exact .refl w

/-! ### Day rolls -/

theorem aside_rollSlot (w : Work) (key : Nat) : Aside w (rollSlot w key) := by
  unfold rollSlot
  split
  · exact .refl w
  · exact ((aside_setSlot _ _ _).trans (aside_evaluateSlot _ _ _ _ _)).trans (aside_orderPoint _)

theorem aside_supplyDayRoll (w : Work) : Aside w (supplyDayRoll w) := .foldl aside_rollSlot _ _

theorem aside_quotaDayRoll (w : Work) : Aside w (quotaDayRoll w) :=
  ⟨rfl, rfl, rfl, rfl, .map (f := peakedAccount) _ fun _ => rfl, [],
    (List.append_nil _).symm, by simp⟩

theorem aside_replenishAccount (w : Work) (i : Nat) : Aside w (replenishAccount w i) := by
  cases ha : w.adir.accounts.lookup i with
  | none =>
    have same : replenishAccount w i = w := by simp only [replenishAccount, Work.updateAccount, ha, evaluateWarning]
    rw [same]
    exact .refl w
  | some a =>
    rw [replenishAccount_of_lookup ha]
    refine ⟨rfl, rfl, rfl, rfl, .put ha rfl, warningRaised i (replenishedAccount a), rfl, fun r hr => ?_⟩
    unfold warningRaised at hr
    split at hr
    · cases hr
    · rw [List.mem_singleton.mp hr]; show NoticeKind.quotaWarning ≠ .start; decide

theorem aside_periodRoll (index : Nat) (w : Work) : Aside w (periodRoll index w) := by
  unfold periodRoll
  refine ((Aside.foldl aside_replenishAccount w.adir.accounts.indices w).trans ?_).trans (.of_raise _ (by decide) _ _)
  exact .of_fields rfl rfl rfl rfl rfl

theorem aside_dayRoll (w : Work) : Aside w (dayRoll w) := by
  have clock : ∀ (w : Work) (fck : Fck), fck.uptime = w.fck.uptime → Aside w { w with fck } := fun w fck same =>
    .of_fields same rfl rfl rfl rfl
  have last : ∀ u : Work, Aside w u → Aside w (supplyDayRoll (quotaDayRoll u)) := fun u h =>
    (h.trans (aside_quotaDayRoll _)).trans (aside_supplyDayRoll _)
  by_cases h : w.fck.countdown ≤ 1
  · rw [dayRoll_of_period h]
    refine last _ ?_
    exact ((clock w (rolledClock w).fck rfl).trans (aside_periodRoll ((w.fck.dayIndex + 1) % 65536) (rolledClock w))).trans (clock _ _ rfl)
  · rw [dayRoll_of_day h]
    exact last _ (clock w _ rfl)

theorem aside_dayRolls (n : Nat) (w : Work) : Aside w (dayRolls n w) := by
  induction n generalizing w with
  | zero => exact .refl w
  | succ n ih => exact (aside_dayRoll w).trans (ih _)

theorem aside_catchUp (w : Work) : Aside w (catchUp w) := by
  unfold catchUp
  split
  · exact .refl w
  · exact (aside_dayRolls _ w).trans (.of_fields rfl rfl rfl rfl rfl)

/-! ### Accounts -/

theorem aside_evaluateWarning (i : Nat) (w : Work) : Aside w (evaluateWarning i w) := by
  cases ha : w.adir.accounts.lookup i with
  | none =>
    have same : evaluateWarning i w = w := by simp only [evaluateWarning, ha]
    rw [same]
    exact .refl w
  | some a =>
    by_cases same : warnStateAfter a = a.warned
    · rw [evaluateWarning_of_unchanged ha same]
      exact .refl w
    · rw [evaluateWarning_of_changed ha same]
      exact ⟨rfl, rfl, rfl, rfl, .put ha rfl, _, rfl, fun r hr => by
        rw [List.mem_singleton.mp hr]; show NoticeKind.quotaWarning ≠ .start; decide⟩

/-! ### Printers -/

theorem aside_setPrinter (w : Work) (i : Nat) (q : Printer) : Aside w (w.setPrinter i q) := .of_fields rfl rfl rfl rfl rfl

theorem aside_raisePrinterState (i previous : Nat) (w : Work) : Aside w (raisePrinterState i previous w) := by
  unfold raisePrinterState
  split
  · exact .refl w
  · exact .of_raise w (by decide) _ _

theorem aside_completePrinter (i : Nat) (w : Work) : Aside w (completePrinter i w) := by
  unfold completePrinter
  split
  · exact .refl w
  · split
    · split
      · have dropped : Aside w (w.dropPrinter i) := .of_fields rfl rfl rfl rfl rfl
        refine dropped.trans ?_
        unfold retiredNotice
        generalize w.dropPrinter i = v
        exact Aside.trans (v := v.raise .printerState _ _) (.of_raise v (by decide) _ _) (.of_raise _ (by decide) _ _)
      · exact .refl w
    · exact .refl w

theorem aside_tellCallouts (p : Nat) (old new : ServiceState) (w : Work) : Aside w (tellCallouts p old new w) := by
  unfold tellCallouts
  split
  · exact aside_endFault _ _ _
  · exact .refl w
  · exact aside_arise _ _ _
  · exact aside_arise _ _ _
  · exact aside_endFault _ _ _
  · exact .refl w

theorem aside_restartCreditFalls (i : Nat) (w : Work) : Aside w (restartCreditFalls i w) := by
  unfold restartCreditFalls
  split
  · exact .refl w
  · split
    · exact aside_setPrinter _ _ _
    · exact .refl w

theorem aside_absenceFalls (i : Nat) (w : Work) : Aside w (absenceFalls i w) := by
  unfold absenceFalls
  split
  · exact .refl w
  · split
    · dsimp only
      split
      · exact aside_setPrinter _ _ _
      · exact ((aside_setPrinter _ _ _).trans (aside_arise _ _ _)).trans (aside_endHandling _)
    · exact .refl w

end Sys2Proof.Laws
end

section
/-! PROOF. What a warm start's work does to jobs, in-flight windows and accounts while no visit stands: each operation as a change of
one view of them. -/

namespace Sys2Proof.Laws

open Sys2Proof.Machine Sys2Proof.Safety Sys2Proof.Clock Sys2Proof.Release

/-! ### Without visits, visits are left alone -/

section
variable {w : Work} (idle : w.rlu.visits = [])
include idle

theorem closeVisit_of_no_visits (p : Nat) (reason : CloseReason) : closeVisit p reason w = w := by
  simp only [closeVisit, idle, Table.lookup]

theorem visitAfterLeaving_of_no_visits (n i : Nat) : visitAfterLeaving n i w = w := by
  unfold visitAfterLeaving
  split
  · rfl
  · simp only [idle, Table.lookup]

theorem offerJob_of_no_visits (n i : Nat) : offerJob n i w = w := by
  unfold offerJob
  split
  · rfl
  · simp only [idle, Table.lookup]

end

/-! ### The view -/

/-- A job but for where it is to be printed, which a reroute changes while it is HELD (R50). -/
def core (j : Job) : Job := if j.stage = .held then { j with target := .any, reroutedFrom := none } else j

theorem core_of_held {j : Job} (h : j.stage = .held) : core j = { j with target := .any, reroutedFrom := none } := if_pos h

theorem core_of_flying {j : Job} (h : j.stage ≠ .held) : core j = j := if_neg h

theorem core_fields (j : Job) :
    (core j).stage = j.stage ∧ (core j).attempts = j.attempts ∧ (core j).owner = j.owner ∧ (core j).expiry = j.expiry := by
  unfold core
  split <;> exact ⟨rfl, rfl, rfl, rfl⟩

/-- A job in flight is known whole by its core. -/
theorem eq_of_core {j k : Job} (h : core j = k) (flies : k.stage ≠ .held) : j = k := by
  have stage := (core_fields j).1
  rw [h] at stage
  rwa [core_of_flying (stage ▸ flies)] at h

/-- Jobs by number, accounts by index, and the windows of the jobs in flight. -/
structure View where
  job : Nat → Option Job
  account : Nat → Option Standing
  window : Nat → Nat → Option Deadline

def view (w : Work) : View where
  job n := (w.hq.jobs.lookup n).map core
  account i := (w.adir.accounts.lookup i).map standing
  window p n := window? w.toRecords p n

namespace View

def setJob (v : View) (n : Nat) (j : Option Job) : View := { v with job := fun m => if m = n then j else v.job m }

def onAccount (v : View) (i : Nat) (f : Standing → Standing) : View :=
  { v with account := fun k => if k = i then (v.account k).map f else v.account k }

def dropAccount (v : View) (i : Nat) : View := { v with account := fun k => if k = i then none else v.account k }

def cutWindow (v : View) (p n : Nat) : View :=
  { v with window := fun q m => if q = p ∧ m = n then none else v.window q m }

/-- A job comes down: its entry and its reservation's account part go, and it is another job or none (R23, R25, R72). -/
def land (v : View) (n : Nat) (owner : Nat) (g : Grant) (j : Option Job) : View :=
  ((v.cutWindow g.printer n).onAccount owner
    (fun a => { a with reserved := a.reserved - g.accountPart, inFlight := a.inFlight - 1 })).setJob n j

/-- The account is RETIRING. -/
def Retires (v : View) (i : Nat) : Prop := ∃ a accepted, v.account i = some a ∧ a.state = .retiring accepted

/-- It is RETIRING with nothing in flight (R160). -/
def Down (v : View) (i : Nat) : Prop := ∃ a accepted, v.account i = some a ∧ a.state = .retiring accepted ∧ a.inFlight = 0

theorem onAccount_id (v : View) (i : Nat) : v.onAccount i (fun a => a) = v := by
  simp only [onAccount, Option.map_id', ite_self]

theorem onAccount_onAccount (v : View) (i : Nat) (f g : Standing → Standing) :
    (v.onAccount i f).onAccount i g = v.onAccount i (fun a => g (f a)) := by
  simp only [onAccount, mk.injEq, true_and, and_true]
  funext k
  split
  · rw [Option.map_map]; rfl
  · rfl

end View

theorem view_job_of_lookup {w : Work} {n : Nat} {j : Job} (h : w.hq.jobs.lookup n = some j) : (view w).job n = some (core j) :=
  congrArg (Option.map core) h

theorem view_job_of_missing {w : Work} {n : Nat} (h : w.hq.jobs.lookup n = none) : (view w).job n = none :=
  congrArg (Option.map core) h

theorem ownerRetiring_iff (w : Work) (i : Nat) : ownerRetiring w.toRecords i = true ↔ (view w).Retires i := by
  simp only [ownerRetiring, View.Retires, view]
  cases w.adir.accounts.lookup i with
  | none => simp
  | some a => cases hs : a.state <;> simp [standing, hs]

/-! ### One operation -/

/-- A list without a job's entry holds the other jobs' as before. -/
theorem find?_filter_job (l : List InFlight) (n m : Nat) :
    (l.filter (fun e => e.job != n)).find? (fun e => e.job == m) = if m = n then none else l.find? (fun e => e.job == m) := by
  rw [List.find?_filter]
  split
  · subst m
    rw [List.find?_eq_none]
    simp
  · congr 1
    funext e
    by_cases h : e.job = m <;> simp [*]

/-- Work without visits that changes the view in one way, and does not raise START. -/
structure Turns (w v : Work) (f : View → View) : Prop where
  idle : v.rlu.visits = []
  told : ∃ new, v.raised = w.raised ++ new ∧ ∀ r ∈ new, r.kind ≠ .start
  view : view v = f (view w)

section
variable {u v w : Work} {f g : View → View}

theorem Turns.trans (h : Turns u v f) (k : v.rlu.visits = [] → Turns v w g) : Turns u w (fun x => g (f x)) := by
  have k := k h.idle
  obtain ⟨new, raised, quiet⟩ := h.told
  obtain ⟨new', raised', quiet'⟩ := k.told
  exact ⟨k.idle, ⟨new ++ new', by rw [raised', raised, List.append_assoc],
    fun r hr => (List.mem_append.mp hr).elim (quiet r) (quiet' r)⟩, by rw [k.view, h.view]⟩

theorem Turns.of_silent (idle : v.rlu.visits = []) (raised : v.raised = w.raised) (turned : Laws.view v = f (Laws.view w)) :
    Turns w v f := ⟨idle, ⟨[], by rw [raised, List.append_nil], by simp⟩, turned⟩

theorem Turns.offered (h : Turns w v f) (n i : Nat) : Turns w (offerJob n i v) f := by
  rw [offerJob_of_no_visits h.idle]
  exact h

theorem Aside.turns (h : Aside w v) (idle : w.rlu.visits = []) : Turns w v id := by
  refine ⟨h.visits.trans idle, h.told, ?_⟩
  simp only [view, id, h.jobs, window?, inFlightList, h.flight]
  congr 1
  exact funext h.accounts

end

section
variable {w : Work} (idle : w.rlu.visits = [])
include idle

theorem turns_refl : Turns w w id := .of_silent idle rfl rfl

theorem turns_updateAccount (i : Nat) {f : Account → Account} {g : Standing → Standing} (h : ∀ a, standing (f a) = g (standing a)) :
    Turns w (w.updateAccount i f) (·.onAccount i g) := by
  unfold Work.updateAccount
  split
  case h_1 missing =>
    refine .of_silent idle rfl ?_
    simp only [view, View.onAccount, View.mk.injEq, true_and, and_true]
    funext k
    split
    · subst k; rw [missing]; rfl
    · rfl
  case h_2 a found =>
    refine .of_silent idle rfl ?_
    simp only [view, View.onAccount, View.mk.injEq, Work.setAccount_hq, Work.setAccount_accounts, window?, inFlightList,
      Work.setAccount_rlu, and_true, true_and, Table.lookup_put]
    funext k
    split
    · subst k; rw [found, Option.map_some, Option.map_some, Option.map_some, h]
    · rfl

theorem turns_setJob (n : Nat) (j : Job) : Turns w (w.setJob n j) (·.setJob n (some (core j))) := by
  refine .of_silent idle rfl ?_
  simp only [view, View.setJob, View.mk.injEq, Work.setJob_adir, Work.setJob_jobs, window?, inFlightList,
    Work.setJob_rlu, and_true, Table.lookup_put]
  funext m
  split <;> rfl

theorem turns_dropJob (n : Nat) : Turns w (w.dropJob n) (·.setJob n none) := by
  refine .of_silent idle rfl ?_
  simp only [view, View.setJob, View.mk.injEq, Work.dropJob_adir, Work.dropJob_jobs, window?, inFlightList,
    Work.dropJob_rlu, and_true, Table.lookup_remove]
  funext m
  split <;> rfl

theorem turns_cutWindow (p n : Nat) :
    Turns w (w.setInFlight p ((inFlightList w.toRecords p).filter (fun e => e.job != n))) (·.cutWindow p n) := by
  refine .of_silent idle rfl ?_
  simp only [view, View.cutWindow, View.mk.injEq, window?, inFlightList, Work.setInFlight_inFlight, Table.list_putList]
  refine ⟨rfl, rfl, ?_⟩
  funext q m
  by_cases hq : q = p
  · subst q
    rw [if_pos rfl, find?_filter_job]
    by_cases hm : m = n <;> simp [hm]
  · rw [if_neg hq, if_neg (fun h => hq h.1)]

theorem turns_updatePool (i : Nat) (f : Pool → Pool) : Turns w (w.updatePool i f) id := by
  unfold Work.updatePool
  split
  · exact turns_refl idle
  · exact .of_silent idle rfl rfl

theorem turns_raise {k : NoticeKind} (h : k ≠ .start) (key : Nat) (body : List Field) : Turns w (w.raise k key body) id :=
  (Aside.of_raise w h key body).turns idle

/-! ### Accounts (R23, R25, R160) -/

theorem turns_refund (i : Nat) (g : Grant) :
    Turns w (refund i g w) (·.onAccount i (fun a => { a with reserved := a.reserved - g.accountPart })) := by
  have changed : Turns w (changeReserved i g.accountPart g.poolPart (· - ·) w)
      (·.onAccount i (fun a => { a with reserved := a.reserved - g.accountPart })) := by
    have written := turns_updateAccount idle i (f := fun a => { a with reserved := a.reserved - g.accountPart })
      (g := fun a => { a with reserved := a.reserved - g.accountPart }) fun _ => rfl
    unfold changeReserved
    split
    case h_1 missing => simpa only [Work.updateAccount, missing] using written
    case h_2 a found =>
      rw [updateAccount_of_lookup found] at written
      dsimp only
      split
      · exact written
      · exact written.trans fun idle => turns_updatePool idle _ _
  exact changed.trans fun idle => (aside_evaluateWarning i _).turns idle

theorem turns_postSettlement (i : Nat) (g : Grant) (x : Nat) :
    Turns w (postSettlement i g x w) (·.onAccount i (fun a => { a with reserved := a.reserved - g.accountPart })) := by
  have written := turns_updateAccount idle i
    (f := fun a => { a with
      balance := lower a.balance (settledParts g x).1
      reserved := a.reserved - g.accountPart
      usedPeriod := saturate (a.usedPeriod + x)
      today := saturate (a.today + x) })
    (g := fun a => { a with reserved := a.reserved - g.accountPart }) fun _ => rfl
  unfold postSettlement
  split
  case h_1 missing => simpa only [Work.updateAccount, missing] using written
  case h_2 a found =>
    rw [updateAccount_of_lookup found] at written
    dsimp only
    refine Turns.trans ?_ fun idle => (aside_evaluateWarning i _).turns idle
    split
    · exact written
    · exact written.trans fun idle => turns_updatePool idle _ _

omit idle in
theorem completeAccount_of_not_down {i : Nat} (h : ¬ (view w).Down i) : completeAccount i w = w := by
  unfold completeAccount
  split
  · rfl
  · split
    · split
      · rename_i a found _ accepted state down
        exact absurd ⟨standing a, accepted, congrArg (Option.map standing) found, state, down⟩ h
      · rfl
    · rfl

theorem turns_completeAccount {i : Nat} (h : (view w).Down i) : Turns w (completeAccount i w) (·.dropAccount i) := by
  obtain ⟨x, accepted, found, state, down⟩ := h
  obtain ⟨a, ha, rfl⟩ := Option.map_eq_some_iff.mp found
  have dropped (v : Work) (idle : v.rlu.visits = []) : Turns v (v.dropAccount i) (·.dropAccount i) := by
    refine .of_silent idle rfl ?_
    simp only [view, View.dropAccount, View.mk.injEq, Work.dropAccount_hq, Work.dropAccount_accounts, window?, inFlightList,
      Work.dropAccount_rlu, and_true, true_and, Table.lookup_remove]
    funext k
    split <;> rfl
  have unbound : Turns w (w.setBadges (w.adir.badges.filter (fun b => b.account != i))) id := .of_silent idle rfl rfl
  simp only [completeAccount, ha, show a.state = .retiring accepted from state, if_pos (show a.inFlight = 0 from down)]
  unfold retiredNotice
  have left : Turns w (match a.pool with
      | none => w.setBadges (w.adir.badges.filter (fun b => b.account != i))
      | some p => (w.setBadges (w.adir.badges.filter (fun b => b.account != i))).updatePool p
          (fun q => { q with members := q.members - 1 })) id := by
    split
    · exact unbound
    · exact unbound.trans fun idle => turns_updatePool idle _ _
  exact (left.trans fun idle => dropped _ idle).trans fun idle => turns_raise idle (by decide) _ _

/-! ### Jobs (R23, R44, R47, R50, R72, R76) -/

theorem turns_leaveFlight (p n i : Nat) :
    Turns w (leaveFlight p n i w) (fun v => (v.cutWindow p n).onAccount i (fun a => { a with inFlight := a.inFlight - 1 })) :=
  (turns_cutWindow idle p n).trans fun idle => turns_updateAccount idle i fun _ => rfl

theorem turns_leaveQueue (n i : Nat) : Turns w (leaveQueue n i w) (·.setJob n none) := by
  unfold leaveQueue
  have unlisted : Turns w (w.setJobList i ((jobList w.toRecords i).erase n)) id := .of_silent idle rfl rfl
  have counted := unlisted.trans fun idle =>
    turns_updateAccount idle i (f := fun a => { a with liveJobs := a.liveJobs - 1 }) (g := fun a => a) fun _ => rfl
  have gone := counted.trans fun idle => turns_dropJob idle n
  simp only [id, View.onAccount_id] at gone
  rw [visitAfterLeaving_of_no_visits gone.idle]
  exact gone

theorem turns_removeJob {n : Nat} {j : Job} (h : w.hq.jobs.lookup n = some j) (reason : RemovalReason) (left : Nat) :
    Turns w (removeJob n reason left w) (·.setJob n none) := by
  simp only [removeJob, h]
  exact (turns_leaveQueue idle n j.owner).trans fun idle => turns_raise idle (by decide) _ _

theorem turns_rerouteJob (p n : Nat) : Turns w (rerouteJob p w n) id := by
  unfold rerouteJob
  split
  · exact turns_refl idle
  · split
    · exact turns_refl idle
    case h_2 j found _ s test =>
      refine Turns.trans (f := id) ?_ fun idle => turns_raise idle (by decide) _ _
      have held : j.stage = .held := by
        by_contra flies
        rw [rerouteTo?, if_pos (.inl flies)] at test
        cases test
      have written := turns_setJob idle n { j with target := .printer s, reroutedFrom := some p }
      have same : (view w).setJob n (some (core { j with target := .printer s, reroutedFrom := some p })) = view w := by
        have core_eq : core { j with target := .printer s, reroutedFrom := some p } = core j := by
          rw [core_of_held held]
          exact core_of_held held
        rw [core_eq]
        simp only [view, View.setJob, View.mk.injEq, and_true]
        funext m
        split
        · subst m; rw [found]; rfl
        · rfl
      exact ⟨written.idle, written.told, written.view.trans same⟩

theorem turns_land {n : Nat} {j : Job} {g : Grant} :
    Turns w (refund j.owner g (leaveFlight g.printer n j.owner w)) (fun v => (v.cutWindow g.printer n).onAccount j.owner
      (fun a => { a with reserved := a.reserved - g.accountPart, inFlight := a.inFlight - 1 })) := by
  have turned := (turns_leaveFlight idle g.printer n j.owner).trans fun idle => turns_refund idle j.owner g
  simpa only [View.onAccount_onAccount] using turned

/-- What becomes of a job that is given back with no attempt counted (R47, R78, R82). -/
def givenBack (v : View) (uptime : Nat) (j : Job) : Option Job → Prop
  | none => v.Retires j.owner ∨ fallen uptime j.expiry
  | some k => k = core { j with stage := .held } ∧ ¬ v.Retires j.owner ∧ ¬ fallen uptime j.expiry

theorem turns_endRelease (from? : Option Nat) {n : Nat} {j : Job} {g : Grant} (hj : w.hq.jobs.lookup n = some j)
    (releasing : j.stage = .releasing g) :
    ∃ k, givenBack (view w) w.fck.uptime j k ∧ Turns w (endRelease false from? w n) (·.land n j.owner g k) := by
  have landed : Turns w (refund j.owner g (leaveFlight g.printer n j.owner w)) _ := turns_land idle (n := n) (j := j) (g := g)
  have written := landed.trans fun idle => turns_setJob idle n { j with stage := .held }
  have removed {reason : RemovalReason} (h : returnReason w.toRecords false { j with stage := .held } = some reason) :
      Turns w (endRelease false from? w n) (·.land n j.owner g none) := by
    rw [endRelease_of_removed hj releasing h]
    have gone := written.trans fun idle => turns_removeJob idle (Table.lookup_put_self _ _ _) reason (returnLeft reason)
    refine ⟨gone.idle, gone.told, gone.view.trans ?_⟩
    simp only [View.land, View.setJob, View.mk.injEq, and_true]
    funext m
    split <;> rfl
  by_cases retires : ownerRetiring w.toRecords j.owner = true
  · exact ⟨none, .inl ((ownerRetiring_iff _ _).mp retires), removed (returnReason_of_retiring (.inl rfl) retires)⟩
  · have stays := Bool.eq_false_iff.mpr retires
    by_cases due : fallen w.fck.uptime j.expiry
    · exact ⟨none, .inr due, removed (returnReason_of_expired (.inl rfl) stays due)⟩
    · refine ⟨some _, ⟨rfl, mt (ownerRetiring_iff _ _).mpr retires, due⟩, ?_⟩
      obtain ⟨plain, rerouted⟩ := endRelease_of_held hj releasing (returnReason_of_none (.inl rfl) stays due)
      cases from? with
      | none =>
        rw [plain]
        exact written.offered n j.owner
      | some p =>
        rw [rerouted p]
        exact (written.trans fun idle => turns_rerouteJob idle p n).offered n j.owner

theorem turns_settled {n : Nat} {j : Job} (g : Grant) (p : Priced) :
    ∃ v, settleJob n j g p w = completePrinter g.printer (completeAccount j.owner v)
      ∧ Kept w.toRecords v.toRecords ∧ Turns w v (·.land n j.owner g none) := by
  obtain ⟨basis, mono, colour, coverage⟩ := p
  rw [settleJob_eq n j g w basis mono colour coverage rfl]
  have consumedKept := (kept_postSettlement j.owner g (charge w.qtu mono colour j.size) w).trans
    (kept_applyConsumption g.printer j.size mono colour coverage _)
  have downKept := (consumedKept.trans (kept_endHandling _)).trans (kept_leaveFlight g.printer n j.owner _)
  refine ⟨_, rfl, (downKept.trans (kept_raise _ _ _ _)).trans (kept_leaveQueue n j.owner _), ?_⟩
  have posted := turns_postSettlement idle j.owner g (charge w.qtu mono colour j.size)
  have consumed := posted.trans fun idle =>
    ((aside_applyConsumption g.printer j.size mono colour coverage _).trans (aside_endHandling _)).turns idle
  have down := consumed.trans fun idle => turns_leaveFlight idle g.printer n j.owner
  have gone (body : List Field) := (down.trans fun idle => turns_raise idle (k := .jobSettled) (by decide) n body).trans
    fun idle => turns_leaveQueue idle n j.owner
  refine ⟨(gone _).idle, (gone _).told, (gone _).view.trans ?_⟩
  simp only [id, View.land]
  rw [show ∀ (v : View) f, (v.onAccount j.owner f).cutWindow g.printer n = (v.cutWindow g.printer n).onAccount j.owner f from
    fun _ _ => rfl, View.onAccount_onAccount]

end

end Sys2Proof.Laws
end

section
/-! PROOF. What a warm start keeps while it works (R82): the reserved points and the in-flight counts agree with the jobs that are still
in flight, and each job is where the work taken so far has brought it. -/

namespace Sys2Proof.Laws

open Sys2Proof.Machine Sys2Proof.Safety Sys2Proof.Clock Sys2Proof.Release

/-! ### Sums over the jobs -/

/-- A number for each live job of a number below a limit, summed. -/
def tally (limit : Nat) (f : Job → Nat) (v : View) : Nat := ∑ n ∈ Finset.range limit, ((v.job n).map f).getD 0

/-- A job number changes its part of the sum alone. -/
theorem tally_setJob {limit : Nat} (f : Job → Nat) (v : View) {n : Nat} (hn : n < limit) (k : Option Job) :
    tally limit f (v.setJob n k) + ((v.job n).map f).getD 0 = tally limit f v + (k.map f).getD 0 := by
  have mem : n ∈ Finset.range limit := Finset.mem_range.mpr hn
  have rest : ∑ m ∈ (Finset.range limit).erase n, (((v.setJob n k).job m).map f).getD 0
      = ∑ m ∈ (Finset.range limit).erase n, ((v.job m).map f).getD 0 := by
    refine Finset.sum_congr rfl fun m hm => ?_
    rw [show (v.setJob n k).job m = v.job m from if_neg (Finset.ne_of_mem_erase hm)]
  unfold tally
  rw [← Finset.add_sum_erase _ _ mem, ← Finset.add_sum_erase _ (fun m => ((v.job m).map f).getD 0) mem, rest]
  rw [show (v.setJob n k).job n = k from if_pos rfl]
  omega

theorem tally_land (limit : Nat) (f : Job → Nat) (v : View) (n owner : Nat) (g : Grant) (k : Option Job) :
    tally limit f (v.land n owner g k) = tally limit f (v.setJob n k) := by
  unfold tally
  refine Finset.sum_congr rfl fun m _ => ?_
  rfl

theorem le_tally {limit : Nat} (f : Job → Nat) (v : View) {n : Nat} (hn : n < limit) : ((v.job n).map f).getD 0 ≤ tally limit f v :=
  Finset.single_le_sum (f := fun m => ((v.job m).map f).getD 0) (fun _ _ => Nat.zero_le _) (Finset.mem_range.mpr hn)

theorem tally_eq_zero {limit : Nat} {f : Job → Nat} {v : View} (h : ∀ n j, v.job n = some j → f j = 0) : tally limit f v = 0 := by
  refine Finset.sum_eq_zero fun n _ => ?_
  cases hj : v.job n with
  | none => rfl
  | some j => exact h n j hj

/-- The sum is the one over the records of a table whose numbers rise. -/
theorem sum_lookup {α : Type} {low high limit : Nat} {t : Table α} (h : Rising low high t) (hl : high ≤ limit) (f : α → Nat) :
    ∑ n ∈ Finset.range limit, ((t.lookup n).map f).getD 0 = (t.map (fun e => f e.2)).sum := by
  induction t with
  | nil => exact Finset.sum_eq_zero fun _ _ => rfl
  | cons e rest ih =>
    obtain ⟨k, a⟩ := e
    obtain ⟨rising, bounds⟩ := h
    rw [List.pairwise_cons] at rising
    obtain ⟨first, rising⟩ := rising
    have restRising : Rising low high rest := ⟨rising, fun e he => bounds e (List.mem_cons_of_mem _ he)⟩
    have absent : Table.lookup rest k = none := by
      cases hk : Table.lookup rest k with
      | none => rfl
      | some b => exact absurd (first _ (Table.mem_of_lookup hk)) (Nat.lt_irrefl _)
    have split : ∀ n, ((Table.lookup ((k, a) :: rest) n).map f).getD 0
        = (if k = n then f a else 0) + ((Table.lookup rest n).map f).getD 0 := by
      intro n
      by_cases hn : k = n
      · subst n; simp [Table.lookup, absent]
      · simp [Table.lookup, hn]
    rw [Finset.sum_congr rfl fun n _ => split n, Finset.sum_add_distrib, ih restRising, Finset.sum_ite_eq,
      if_pos (Finset.mem_range.mpr ((bounds _ List.mem_cons_self).2.trans_le hl)), List.map_cons, List.sum_cons]

theorem tally_view {w : Work} {limit : Nat} (hl : 65536 ≤ limit) (sound : TablesSound w.toRecords) {f : Job → Nat}
    (hf : ∀ j, f (core j) = f j) :
    tally limit f (view w) = (w.hq.jobs.map (fun e => f e.2)).sum := by
  rw [← sum_lookup sound.jobs hl]
  refine Finset.sum_congr rfl fun n _ => ?_
  simp only [view, Option.map_map]
  congr 2
  exact funext hf

/-! ### The accounts' books -/

/-- The account part of a RELEASING job, for its owner. -/
def releasePart (i : Nat) (j : Job) : Nat :=
  match j.stage with
  | .releasing g => if j.owner = i then g.accountPart else 0
  | _ => 0

/-- A job in flight, counted for its owner (R72). -/
def flying (i : Nat) (j : Job) : Nat := if j.owner = i ∧ j.stage ≠ .held then 1 else 0

theorem releasePart_of_held {j : Job} (h : j.stage = .held) (i : Nat) : releasePart i j = 0 := by
  simp only [releasePart, h]

theorem flying_of_held {j : Job} (h : j.stage = .held) (i : Nat) : flying i j = 0 := if_neg (fun k => k.2 h)

theorem releasePart_of_other {i : Nat} {j : Job} (h : i ≠ j.owner) : releasePart i j = 0 := by
  unfold releasePart
  split
  · exact if_neg (Ne.symm h)
  · rfl

theorem flying_of_other {i : Nat} {j : Job} (h : i ≠ j.owner) : flying i j = 0 := if_neg (fun k => h k.1.symm)

/-- What the work of a start keeps of the accounts, from what they were. `agree`: the records agreed before; `calm`: no account's
retirement has completed yet. -/
structure Books (limit : Nat) (agree calm : Prop) (u x : View) : Prop where
  low : ∀ n j, x.job n = some j → n < limit
  origin : ∀ n j, x.job n = some j → j.stage ≠ .held → u.job n = some j
  state : ∀ i a', x.account i = some a' → ∃ a, u.account i = some a ∧ a'.state = a.state
  stays : ∀ i a, u.account i = some a → ¬ u.Retires i → ∃ a', x.account i = some a'
  reserved : ∀ i a a', u.account i = some a → x.account i = some a' →
    (∀ n j, u.job n = some j → j.owner = i → ∀ g accepted, j.stage ≠ .printing g accepted) →
      a'.reserved = a.reserved - (tally limit (releasePart i) u - tally limit (releasePart i) x)
      ∧ tally limit (releasePart i) x ≤ tally limit (releasePart i) u
  gone : ∀ i, u.Retires i → x.account i = none →
    (calm → ∀ n j g, x.job n = some j → j.owner = i → j.stage ≠ .releasing g) ∧ (agree → tally limit (flying i) x = 0)
  counted : agree → ∀ i a, x.account i = some a → a.inFlight = tally limit (flying i) x
  windows : agree → ∀ n j g accepted, x.job n = some j → j.stage = .printing g accepted →
    x.window g.printer n = u.window g.printer n

section
variable {limit : Nat} {agree calm : Prop} {u x : View} (h : Books limit agree calm u x) {n : Nat} {j : Job} (hj : x.job n = some j)
include h

theorem Books.retires {i : Nat} (r : x.Retires i) : u.Retires i := by
  obtain ⟨a', accepted, found, state⟩ := r
  obtain ⟨a, was, same⟩ := h.state i a' found
  exact ⟨a, accepted, was, same ▸ state⟩

include hj

theorem Books.tally_setJob (f : Job → Nat) (k : Option Job) :
    tally limit f (x.setJob n k) + f j = tally limit f x + (k.map f).getD 0 := by
  have moved := Laws.tally_setJob f x (h.low n j hj) k
  rwa [hj] at moved

/-- A HELD job that leaves the queue is in none of the sums. -/
theorem Books.expire (held : j.stage = .held) : Books limit agree calm u (x.setJob n none) := by
  have same {f : Job → Nat} (hf : f j = 0) : tally limit f (x.setJob n none) = tally limit f x := by
    have moved := h.tally_setJob hj f none
    rw [hf, Option.map_none, Option.getD_none] at moved
    omega
  have part (i : Nat) := same (releasePart_of_held held i)
  have flies (i : Nat) := same (flying_of_held held i)
  have fewer {m : Nat} {j' : Job} (hm : (x.setJob n none).job m = some j') : x.job m = some j' := by
    simp only [View.setJob] at hm
    split at hm
    · cases hm
    · exact hm
  refine ⟨fun m j' hm => h.low m j' (fewer hm), fun m j' hm => h.origin m j' (fewer hm), h.state, h.stays, fun i a a' ha ha' quiet => ?_,
    fun i r missing => ?_, fun ag i a ha => ?_, fun ag m j' g accepted hm => h.windows ag m j' g accepted (fewer hm)⟩
  · rw [part]; exact h.reserved i a a' ha ha' quiet
  · obtain ⟨noRelease, none⟩ := h.gone i r missing
    exact ⟨fun c m j' g hm => noRelease c m j' g (fewer hm), fun ag => (flies i).trans (none ag)⟩
  · rw [flies]; exact h.counted ag i a ha

/-- A job that comes down leaves the sums with its reservation and its count. -/
theorem Books.land {g : Grant} (hg : j.stage.grant? = some g) {k : Option Job} (hk : ∀ k', k = some k' → k'.stage = .held) :
    Books limit agree calm u (x.land n j.owner g k) := by
  have away : j.stage ≠ .held := fun held => by rw [held] at hg; cases hg
  have noPart {f : Job → Nat} (hf : ∀ k : Job, k.stage = .held → f k = 0) : (k.map f).getD 0 = 0 := by
    cases hk' : k with
    | none => rfl
    | some k' => exact hf k' (hk k' hk')
  have part (i : Nat) : tally limit (releasePart i) (x.land n j.owner g k) + releasePart i j = tally limit (releasePart i) x := by
    have moved := h.tally_setJob hj (releasePart i) k
    rw [noPart fun k hk => releasePart_of_held hk i] at moved
    rw [tally_land]
    omega
  have flies (i : Nat) : tally limit (flying i) (x.land n j.owner g k) + flying i j = tally limit (flying i) x := by
    have moved := h.tally_setJob hj (flying i) k
    rw [noPart fun k hk => flying_of_held hk i] at moved
    rw [tally_land]
    omega
  have job (m : Nat) : (x.land n j.owner g k).job m = if m = n then k else x.job m := rfl
  have account (i : Nat) : (x.land n j.owner g k).account i = if i = j.owner then (x.account i).map
      (fun a => { a with reserved := a.reserved - g.accountPart, inFlight := a.inFlight - 1 }) else x.account i := rfl
  have fewer {m : Nat} {j' : Job} (hm : (x.land n j.owner g k).job m = some j') (flies : j'.stage ≠ .held) :
      m ≠ n ∧ x.job m = some j' := by
    rw [job] at hm
    split at hm
    · exact absurd (hk j' hm) flies
    · exact ⟨‹_›, hm⟩
  have was {i : Nat} {a' : Standing} (ha' : (x.land n j.owner g k).account i = some a') :
      ∃ a, x.account i = some a ∧ a'.state = a.state ∧ (i = j.owner → a'.reserved = a.reserved - g.accountPart
        ∧ a'.inFlight = a.inFlight - 1) ∧ (i ≠ j.owner → a' = a) := by
    rw [account] at ha'
    split at ha'
    · obtain ⟨a, ha, rfl⟩ := Option.map_eq_some_iff.mp ha'
      exact ⟨a, ha, rfl, fun _ => ⟨rfl, rfl⟩, fun other => absurd ‹_› other⟩
    · exact ⟨a', ha', rfl, fun own => absurd own ‹_›, fun _ => rfl⟩
  refine ⟨fun m j' hm => ?low, fun m j' hm away => ?origin, fun i a' ha' => ?state, fun i a ha active => ?stays,
    fun i a a' ha ha' quiet => ?reserved, fun i r missing => ?gone, fun ag i a' ha' => ?counted,
    fun ag m j' g' accepted hm printing => ?windows⟩
  case low =>
    rw [job] at hm
    split at hm
    · subst m; exact h.low n j hj
    · exact h.low m j' hm
  case origin => exact h.origin m j' (fewer hm away).2 away
  case state =>
    obtain ⟨a, ha, same, -⟩ := was ha'
    obtain ⟨b, hb, state⟩ := h.state i a ha
    exact ⟨b, hb, same.trans state⟩
  case stays =>
    obtain ⟨a', ha'⟩ := h.stays i a ha active
    rw [account, ha']
    split
    · exact ⟨_, rfl⟩
    · exact ⟨_, rfl⟩
  case reserved =>
    obtain ⟨b, hb, -, own, other⟩ := was ha'
    obtain ⟨stood, le⟩ := h.reserved i a b ha hb quiet
    have moved := part i
    by_cases mine : i = j.owner
    · have value : releasePart i j = g.accountPart := by
        cases hs : j.stage with
        | held => exact absurd hs away
        | releasing g' =>
          rw [hs] at hg
          cases hg
          simp only [releasePart, hs, if_pos mine.symm]
        | printing g' accepted => exact absurd hs (quiet n j (h.origin n j hj away) mine.symm g' accepted)
      rw [(own mine).1, stood]
      omega
    · rw [releasePart_of_other mine] at moved
      rw [other mine, stood]
      omega
  case gone =>
    have missing : x.account i = none := by
      rw [account] at missing
      split at missing
      · exact Option.map_eq_none_iff.mp missing
      · exact missing
    obtain ⟨noRelease, none⟩ := h.gone i r missing
    refine ⟨fun c m j' g' hm own releasing => ?_, fun ag => ?_⟩
    · exact noRelease c m j' g' (fewer hm (by rw [releasing]; exact Stage.noConfusion)).2 own releasing
    · have moved := flies i
      have zero := none ag
      omega
  case counted =>
    obtain ⟨b, hb, -, own, other⟩ := was ha'
    have stood := h.counted ag i b hb
    have moved := flies i
    by_cases mine : i = j.owner
    · rw [show flying i j = 1 from if_pos ⟨mine.symm, away⟩] at moved
      rw [(own mine).2]
      omega
    · rw [flying_of_other mine] at moved
      rw [other mine]
      omega
  case windows =>
    obtain ⟨ne, hm⟩ := fewer hm (by rw [printing]; exact Stage.noConfusion)
    refine Eq.trans ?_ (h.windows ag m j' g' accepted hm printing)
    exact if_neg fun cut => ne cut.2

omit hj in
/-- An account's retirement completes with nothing in flight. -/
theorem Books.drop {i : Nat} (down : x.Down i)
    (quiet : calm → ∀ n j g, x.job n = some j → j.owner = i → j.stage ≠ .releasing g) :
    Books limit agree calm u (x.dropAccount i) := by
  obtain ⟨d, accepted, found, state, down⟩ := down
  have retires := h.retires ⟨d, accepted, found, state⟩
  have account (k : Nat) : (x.dropAccount i).account k = if k = i then none else x.account k := rfl
  have was {k : Nat} {a : Standing} (ha : (x.dropAccount i).account k = some a) : x.account k = some a := by
    rw [account] at ha
    split at ha
    · cases ha
    · exact ha
  refine ⟨h.low, h.origin, fun k a ha => h.state k a (was ha), fun k a ha active => ?_,
    fun k a a' ha ha' => h.reserved k a a' ha (was ha'), fun k r missing => ?_, fun ag k a ha => h.counted ag k a (was ha), h.windows⟩
  · obtain ⟨a', ha'⟩ := h.stays k a ha active
    exact ⟨a', (if_neg (fun same : k = i => active (same ▸ retires))).trans ha'⟩
  · by_cases same : k = i
    · subst k
      exact ⟨quiet, fun ag => (h.counted ag i d found).symm.trans down⟩
    · exact h.gone k r ((if_neg same).symm.trans missing)

end

end Sys2Proof.Laws
end

section
/-! PROOF. What becomes of each job while a warm start works (R45, R47, R77, R82), and the start's work in any order. -/

namespace Sys2Proof.Laws

open Sys2Proof.Machine Sys2Proof.Safety Sys2Proof.Clock Sys2Proof.Release

/-- Where the work taken so far has brought each job, from what it was. -/
structure Fates (now : Nat) (agree calm : Prop) (done : List StartWork) (u x : View) : Prop where
  absent : ∀ n, u.job n = none → x.job n = none
  expired : ∀ n j, u.job n = some j → j.stage = .held → .deadline (.expiry n) ∈ done → fallen now j.expiry → x.job n = none
  held : ∀ n j, u.job n = some j → j.stage = .held → .deadline (.expiry n) ∉ done ∨ ¬ fallen now j.expiry → x.job n = some j
  printing : ∀ n j g accepted, u.job n = some j → j.stage = .printing g accepted → x.job n = some j ∨ x.job n = none
  settled : agree → ∀ n j g accepted, u.job n = some j → j.stage = .printing g accepted →
    (x.job n = none ↔ .deadline (.completionWindow n) ∈ done ∧ ∃ d, u.window g.printer n = some d ∧ fallen now d)
  releasing : ∀ n j g, u.job n = some j → j.stage = .releasing g →
    x.job n = some j
    ∨ x.job n = some (core { j with stage := .held }) ∧ ¬ fallen now j.expiry ∧ ¬ (u.Retires j.owner ∧ (agree ∨ calm))
    ∨ x.job n = none ∧ (u.Retires j.owner ∨ fallen now j.expiry)

section
variable {now : Nat} {agree calm : Prop} {done : List StartWork} {u x : View} (h : Fates now agree calm done u x)
include h

/-- The other work decides on no job. -/
theorem Fates.more {piece : StartWork} (expiry : ∀ n, piece ≠ .deadline (.expiry n))
    (window : ∀ n, piece ≠ .deadline (.completionWindow n)) : Fates now agree calm (done ++ [piece]) u x := by
  have old {d : DeadlineName} (hd : piece ≠ .deadline d) : .deadline d ∈ done ++ [piece] ↔ .deadline d ∈ done := by
    rw [List.mem_append, List.mem_singleton, or_iff_left (Ne.symm hd)]
  refine ⟨h.absent, fun n j hj hs taken => h.expired n j hj hs ((old (expiry n)).mp taken),
    fun n j hj hs left => h.held n j hj hs (left.imp_left (mt (old (expiry n)).mpr)), h.printing, fun ag n j g accepted hj hs => ?_,
    h.releasing⟩
  rw [old (window n)]
  exact h.settled ag n j g accepted hj hs

variable {n : Nat} {j : Job}

/-- A job that is HELD by now was so, or has been given back and is not due. -/
theorem Fates.held_origin (hj : x.job n = some j) (held : j.stage = .held) (due : fallen now j.expiry) : u.job n = some j := by
  cases hu : u.job n with
  | none => rw [h.absent n hu] at hj; cases hj
  | some k =>
    cases hk : k.stage with
    | held =>
      by_cases taken : .deadline (.expiry n) ∈ done ∧ fallen now k.expiry
      · rw [h.expired n k hu hk taken.1 taken.2] at hj; cases hj
      · rw [h.held n k hu hk (by tauto)] at hj; exact hj
    | printing g accepted =>
      obtain same | gone := h.printing n k g accepted hu hk
      · rw [same] at hj; cases hj; simp [hk] at held
      · rw [gone] at hj; cases hj
    | releasing g =>
      obtain same | ⟨back, waits, -⟩ | ⟨gone, -⟩ := h.releasing n k g hu hk
      · rw [same] at hj; cases hj; simp [hk] at held
      · rw [back] at hj; cases hj
        exact absurd ((core_fields _).2.2.2 ▸ due) waits
      · rw [gone] at hj; cases hj

/-- A HELD job's expiry is taken (R45). -/
theorem Fates.expire (hj : x.job n = some j) (held : j.stage = .held) (due : fallen now j.expiry) :
    Fates now agree calm (done ++ [.deadline (.expiry n)]) u (x.setJob n none) := by
  have was := h.held_origin hj held due
  have other {m : Nat} (ne : m ≠ n) : (x.setJob n none).job m = x.job m := if_neg ne
  have old {m : Nat} (ne : m ≠ n) :
      StartWork.deadline (.expiry m) ∈ done ++ [.deadline (.expiry n)] ↔ .deadline (.expiry m) ∈ done := by simp [ne]
  have flies {m : Nat} {k : Job} (hm : u.job m = some k) (hk : k.stage ≠ .held) : m ≠ n := by
    rintro rfl
    rw [was] at hm
    cases hm
    exact hk held
  refine ⟨fun m hm => ?_, fun m k hm hk taken due => ?_, fun m k hm hk left => ?_, fun m k g accepted hm hk => ?_,
    fun ag m k g accepted hm hk => ?_, fun m k g hm hk => ?_⟩
  · by_cases same : m = n
    · subst m; exact if_pos rfl
    · rw [other same]; exact h.absent m hm
  · by_cases same : m = n
    · subst m; exact if_pos rfl
    · rw [other same]; exact h.expired m k hm hk ((old same).mp taken) due
  · by_cases same : m = n
    · subst m
      rw [was] at hm
      cases hm
      exact absurd left (by simp [due])
    · rw [other same]; exact h.held m k hm hk (left.imp_left (mt (old same).mpr))
  · rw [other (flies hm (by simp [hk]))]; exact h.printing m k g accepted hm hk
  · rw [other (flies hm (by simp [hk])), h.settled ag m k g accepted hm hk]
    simp
  · rw [other (flies hm (by simp [hk]))]; exact h.releasing m k g hm hk

/-- An expiry that is not due, or whose job is not HELD, has no effect (R45). -/
theorem Fates.stay_expiry (stays : ∀ j, x.job n = some j → j.stage = .held → ¬ fallen now j.expiry) :
    Fates now agree calm (done ++ [.deadline (.expiry n)]) u x := by
  refine ⟨h.absent, fun m k hm hk taken due => ?_, fun m k hm hk left => ?_, h.printing, fun ag m k g accepted hm hk => ?_, h.releasing⟩
  · by_cases old : .deadline (.expiry m) ∈ done
    · exact h.expired m k hm hk old due
    · have same : m = n := by simpa [old] using taken
      subst m
      exact absurd due (stays k (h.held n k hm hk (.inl old)) hk)
  · exact h.held m k hm hk (left.imp_left (mt (List.mem_append_left _)))
  · rw [h.settled ag m k g accepted hm hk]
    simp

/-- A job's completion window is taken: it is settled (R77). -/
theorem Fates.settle {g : Grant} {accepted : Nat} (was : u.job n = some j) (hs : j.stage = .printing g accepted)
    (due : agree → ∃ d, u.window g.printer n = some d ∧ fallen now d) :
    Fates now agree calm (done ++ [.deadline (.completionWindow n)]) u (x.land n j.owner g none) := by
  have other {m : Nat} (ne : m ≠ n) : (x.land n j.owner g none).job m = x.job m := if_neg ne
  have none_at : (x.land n j.owner g none).job n = none := if_pos rfl
  have ne_of {m : Nat} {k : Job} (hm : u.job m = some k) (hk : ∀ g accepted, k.stage ≠ .printing g accepted) : m ≠ n := by
    rintro rfl
    rw [was] at hm
    cases hm
    exact hk g accepted hs
  refine ⟨fun m hm => ?_, fun m k hm hk taken due => ?_, fun m k hm hk left => ?_, fun m k g' a' hm hk => ?_,
    fun ag m k g' a' hm hk => ?_, fun m k g' hm hk => ?_⟩
  · rw [other (by rintro rfl; rw [was] at hm; cases hm)]; exact h.absent m hm
  · rw [other (ne_of hm (by simp [hk]))]; exact h.expired m k hm hk (by simpa using taken) due
  · rw [other (ne_of hm (by simp [hk]))]; exact h.held m k hm hk (by simpa using left)
  · by_cases same : m = n
    · subst m; exact .inr none_at
    · rw [other same]; exact h.printing m k g' a' hm hk
  · by_cases same : m = n
    · subst m
      rw [was] at hm
      cases hm
      rw [hs] at hk
      cases hk
      simp [none_at, due ag]
    · rw [other same, h.settled ag m k g' a' hm hk]
      simp [same]
  · rw [other (ne_of hm (by simp [hk]))]; exact h.releasing m k g' hm hk

/-- A completion window that is not due, or whose job is not PRINTING, has no effect (R77). -/
theorem Fates.stay_window (stays : agree → ∀ j g accepted, x.job n = some j → j.stage = .printing g accepted →
    ∀ d, u.window g.printer n = some d → ¬ fallen now d) :
    Fates now agree calm (done ++ [.deadline (.completionWindow n)]) u x := by
  refine ⟨h.absent, fun m k hm hk taken => h.expired m k hm hk (by simpa using taken),
    fun m k hm hk left => h.held m k hm hk (by simpa using left), h.printing, fun ag m k g accepted hm hk => ?_, h.releasing⟩
  have decided := h.settled ag m k g accepted hm hk
  refine ⟨fun gone => ?_, fun ⟨taken, d, hd, due⟩ => ?_⟩
  · obtain ⟨taken, window⟩ := decided.mp gone
    exact ⟨List.mem_append_left _ taken, window⟩
  · by_contra stands
    have standing : x.job m = some k := (h.printing m k g accepted hm hk).resolve_right stands
    obtain taken | new := List.mem_append.mp taken
    · exact stands (decided.mpr ⟨taken, d, hd, due⟩)
    · have same : m = n := by simpa using new
      subst m
      exact stays ag k g accepted standing hk d hd due

/-- A release is given back (R82). -/
theorem Fates.giveBack {g : Grant} {k : Option Job} (was : u.job n = some j) (hs : j.stage = .releasing g)
    (given : match k with
      | none => u.Retires j.owner ∨ fallen now j.expiry
      | some k => k = core { j with stage := .held } ∧ ¬ fallen now j.expiry ∧ ¬ (u.Retires j.owner ∧ (agree ∨ calm))) :
    Fates now agree calm done u (x.land n j.owner g k) := by
  have other {m : Nat} (ne : m ≠ n) : (x.land n j.owner g k).job m = x.job m := if_neg ne
  have here : (x.land n j.owner g k).job n = k := if_pos rfl
  have ne_of {m : Nat} {k : Job} (hm : u.job m = some k) (hk : ∀ g, k.stage ≠ .releasing g) : m ≠ n := by
    rintro rfl
    rw [was] at hm
    cases hm
    exact hk g hs
  refine ⟨fun m hm => ?_, fun m k hm hk => ?_, fun m k hm hk => ?_, fun m k g' a' hm hk => ?_,
    fun ag m k g' a' hm hk => ?_, fun m k' g' hm hk => ?_⟩
  · rw [other (by rintro rfl; rw [was] at hm; cases hm)]; exact h.absent m hm
  · rw [other (ne_of hm (by simp [hk]))]; exact h.expired m k hm hk
  · rw [other (ne_of hm (by simp [hk]))]; exact h.held m k hm hk
  · rw [other (ne_of hm (by simp [hk]))]; exact h.printing m k g' a' hm hk
  · rw [other (ne_of hm (by simp [hk]))]; exact h.settled ag m k g' a' hm hk
  · by_cases same : m = n
    · subst m
      rw [was] at hm
      cases hm
      rw [here]
      cases k with
      | none => exact .inr (.inr ⟨rfl, given⟩)
      | some k =>
        obtain ⟨rfl, rest⟩ := given
        exact .inr (.inl ⟨rfl, rest⟩)
    · rw [other same]; exact h.releasing m k' g' hm hk

end

end Sys2Proof.Laws
end

section
/-! PROOF. The work of a warm start, in any order, from what the records were (R82, R185). -/

namespace Sys2Proof.Laws

open Sys2Proof.Machine Sys2Proof.Safety Sys2Proof.Clock Sys2Proof.Release

/-- A warm start at work: `s` is the work it began with, `done` the pieces taken so far. -/
structure Starting (limit : Nat) (agree calm : Prop) (s : Work) (done : List StartWork) (w : Work) : Prop where
  idle : w.rlu.visits = []
  told : ∀ r ∈ w.raised, r.kind ≠ .start
  uptime : w.fck.uptime = s.fck.uptime
  books : Books limit agree calm (view s) (view w)
  fates : Fates s.fck.uptime agree calm done (view s) (view w)

section
variable {limit : Nat} {agree calm : Prop} {s w v : Work} {done : List StartWork}

theorem Starting.turn (h : Starting limit agree calm s done w) {f : View → View} (turned : Turns w v f)
    (uptime : v.fck.uptime = w.fck.uptime) {done' : List StartWork} (books : Books limit agree calm (view s) (f (view w)))
    (fates : Fates s.fck.uptime agree calm done' (view s) (f (view w))) : Starting limit agree calm s done' v := by
  obtain ⟨new, raised, quiet⟩ := turned.told
  refine ⟨turned.idle, fun r hr => ?_, uptime.trans h.uptime, turned.view.symm ▸ books, turned.view.symm ▸ fates⟩
  rw [raised] at hr
  exact (List.mem_append.mp hr).elim (h.told r) (quiet r)

theorem Starting.foldl {β : Type} {f : Work → β → Work}
    (hf : ∀ w x, Starting limit agree calm s done w → Starting limit agree calm s done (f w x)) (l : List β) (w : Work)
    (h : Starting limit agree calm s done w) : Starting limit agree calm s done (l.foldl f w) := by
  induction l generalizing w with
  | nil => exact h
  | cons x rest ih => exact ih _ (hf w x h)

variable (h : Starting limit agree calm s done w)
include h

theorem Starting.aside (k : Aside w v) : Starting limit agree calm s done v :=
  h.turn (k.turns h.idle) k.uptime h.books h.fates

theorem Starting.more {piece : StartWork} (expiry : ∀ n, piece ≠ .deadline (.expiry n))
    (window : ∀ n, piece ≠ .deadline (.completionWindow n)) : Starting limit agree calm s (done ++ [piece]) w :=
  ⟨h.idle, h.told, h.uptime, h.books, h.fates.more expiry window⟩

theorem Starting.reroute (p n : Nat) : Starting limit agree calm s done (rerouteJob p w n) :=
  h.turn (turns_rerouteJob h.idle p n) (by rw [(kept_rerouteJob p w n).clock]) h.books h.fates

/-- A release is given back (R78, R82). -/
theorem Starting.endRelease (from? : Option Nat) (n : Nat) : Starting limit agree calm s done (endRelease false from? w n) := by
  have uptime : (Machine.endRelease false from? w n).fck.uptime = w.fck.uptime := by rw [(kept_endRelease false from? w n).clock]
  cases hj : w.hq.jobs.lookup n with
  | none => simpa only [Machine.endRelease, hj] using h
  | some j =>
    cases hs : j.stage with
    | held => simpa only [Machine.endRelease, hj, hs] using h
    | printing => simpa only [Machine.endRelease, hj, hs] using h
    | releasing g =>
      obtain ⟨k, given, turned⟩ := turns_endRelease h.idle from? hj hs
      have flies : j.stage ≠ .held := by simp [hs]
      have here : (view w).job n = some j := (view_job_of_lookup hj).trans (congrArg some (core_of_flying flies))
      have was := h.books.origin n j here flies
      refine h.turn turned uptime (h.books.land here (by rw [hs]; rfl) fun k' hk' => ?_) (h.fates.giveBack was hs ?_)
      · subst hk'
        obtain ⟨rfl, -⟩ := given
        exact (core_fields _).1
      · rw [h.uptime] at given
        cases k with
        | none => exact given.imp_left h.books.retires
        | some k =>
          obtain ⟨same, stays, waits⟩ := given
          refine ⟨same, waits, fun ⟨retires, known⟩ => ?_⟩
          cases ha : (view w).account j.owner with
          | some a =>
            obtain ⟨b, hb, state⟩ := h.books.state j.owner a ha
            obtain ⟨c, accepted, hc, retiring⟩ := retires
            rw [hb] at hc
            cases hc
            exact stays ⟨a, accepted, ha, state.trans retiring⟩
          | none =>
            obtain ⟨noRelease, none⟩ := h.books.gone j.owner retires ha
            obtain ag | c := known
            · have counted := le_tally (flying j.owner) (view w) (h.books.low n j here)
              rw [none ag, here] at counted
              simp [flying, flies] at counted
            · exact noRelease c n j g here rfl hs

/-- A retirement completes where it now can (R160). -/
theorem Starting.complete (i : Nat) (quiet : calm → ∀ n j g, (view w).job n = some j → j.owner = i → j.stage ≠ .releasing g) :
    Starting limit agree calm s done (completeAccount i w) := by
  by_cases down : (view w).Down i
  · exact h.turn (turns_completeAccount h.idle down) (by rw [(kept_completeAccount i w).clock]) (h.books.drop down quiet)
      ⟨h.fates.absent, h.fates.expired, h.fates.held, h.fates.printing, h.fates.settled, h.fates.releasing⟩
  · rwa [completeAccount_of_not_down down]

theorem Starting.expiry (n : Nat) : Starting limit agree calm s (done ++ [.deadline (.expiry n)]) (expiryFalls n w) := by
  have stay (stays : ∀ j, (view w).job n = some j → j.stage = .held → ¬ fallen s.fck.uptime j.expiry) :
      Starting limit agree calm s (done ++ [.deadline (.expiry n)]) w :=
    ⟨h.idle, h.told, h.uptime, h.books, h.fates.stay_expiry stays⟩
  unfold expiryFalls
  split
  case h_1 missing =>
    refine stay fun j hj => ?_
    rw [view_job_of_missing missing] at hj
    cases hj
  case h_2 j found =>
    have here := view_job_of_lookup found
    obtain ⟨stage, -, -, expiry⟩ := core_fields j
    split
    case isTrue due =>
      obtain ⟨held, due⟩ := due
      have due : fallen s.fck.uptime (core j).expiry := by
        rw [expiry, ← h.uptime]
        exact (reached_iff_fallen _ _).mp due
      exact h.turn (turns_removeJob h.idle found _ _) (by rw [(kept_removeJob n _ _ w).clock])
        (h.books.expire here (stage.trans held)) (h.fates.expire here (stage.trans held) due)
    case isFalse notDue =>
      refine stay fun k hk held due => notDue ?_
      rw [here] at hk
      cases hk
      refine ⟨stage ▸ held, (reached_iff_fallen _ _).mpr ?_⟩
      rw [expiry, ← h.uptime] at due
      exact due

end

section
variable {limit : Nat} {agree calm : Prop} {s w v : Work} {done : List StartWork}
  (h : Starting limit agree calm s done w) (begun : ¬ calm)
include h begun

theorem Starting.completeAccounts (l : List Nat) : Starting limit agree calm s done (completeAccounts l w) :=
  Starting.foldl (fun _ i k => k.complete i fun c => absurd c begun) l w h

theorem Starting.window (n : Nat) :
    Starting limit agree calm s (done ++ [.deadline (.completionWindow n)]) (completionWindowFalls n w) := by
  have stay (stays : agree → ∀ j g accepted, (view w).job n = some j → j.stage = .printing g accepted →
      ∀ d, (view s).window g.printer n = some d → ¬ fallen s.fck.uptime d) :
      Starting limit agree calm s (done ++ [.deadline (.completionWindow n)]) w :=
    ⟨h.idle, h.told, h.uptime, h.books, h.fates.stay_window stays⟩
  unfold completionWindowFalls
  split
  case h_1 missing =>
    refine stay fun _ j _ _ hj => ?_
    rw [view_job_of_missing missing] at hj
    cases hj
  case h_2 j found =>
    have here := view_job_of_lookup found
    split
    case h_1 g accepted hs =>
      have flies : j.stage ≠ .held := by simp [hs]
      rw [core_of_flying flies] at here
      have was := h.books.origin n j here flies
      split
      case isTrue due =>
        obtain ⟨v, done_eq, kept, turned⟩ := turns_settled h.idle (j := j) (n := n) g (declaredPages j)
        rw [done_eq]
        have fates := h.fates.settle was hs fun ag => by
          rw [← h.books.windows ag n j g accepted here hs, ← h.uptime]
          cases hd : (view w).window g.printer n with
          | none => rw [show window? w.toRecords g.printer n = none from hd] at due; cases due
          | some d =>
            rw [show window? w.toRecords g.printer n = some d from hd] at due
            exact ⟨d, rfl, (reached_iff_fallen _ _).mp due⟩
        have landed := h.turn turned (by rw [kept.clock]) (h.books.land here (by rw [hs]; rfl) (by simp)) fates
        exact (landed.complete j.owner fun c => absurd c begun).aside (aside_completePrinter _ _)
      case isFalse notDue =>
        refine stay fun ag k g' a' hk hs' d hd due => notDue ?_
        rw [here] at hk
        cases hk
        rw [hs] at hs'
        cases hs'
        rw [← h.books.windows ag n j g accepted here hs] at hd
        rw [show window? w.toRecords g.printer n = some d from hd]
        rw [← h.uptime] at due
        exact (reached_iff_fallen _ _).mpr due
    case h_2 notPrinting =>
      refine stay fun _ k g accepted hk hs => ?_
      rw [here] at hk
      cases hk
      exact absurd ((core_fields j).1.symm.trans hs) (notPrinting g accepted)

/-- A change of a printer's health gives back its releases and reroutes its HELD jobs (R51, R78). -/
theorem Starting.finishChange (i : Nat) (old new : Printer) : Starting limit agree calm s done (finishChange i old new w) := by
  have written : Starting limit agree calm s done (w.setPrinter i new) := h.aside (aside_setPrinter w i new)
  have noticed : Starting limit agree calm s done (if old.state = new.state ∧ old.present = new.present then w.setPrinter i new
      else raisePrinterState i old.state.code (w.setPrinter i new)) := by
    split
    · exact written
    · exact written.aside (aside_raisePrinterState _ _ _)
  have released {v : Work} (k : Starting limit agree calm s done v) :
      Starting limit agree calm s done (tellRelease i old.state new.state v) := by
    unfold tellRelease
    split
    · rw [closeVisit_of_no_visits k.idle]
      exact Starting.foldl (fun _ n k => k.endRelease _ n) _ _ k
    · exact k
  have rerouted {v : Work} (k : Starting limit agree calm s done v) :
      Starting limit agree calm s done (tellHold i old.state new.state v) := by
    unfold tellHold
    split
    · exact Starting.foldl (fun _ n k => k.reroute i n) _ _ k
    · exact k
  have changed : Starting limit agree calm s done (changePrinter i old new w) := by
    unfold changePrinter tellNeighbours
    dsimp only
    split
    · exact noticed
    · exact (rerouted (released noticed)).aside (aside_tellCallouts _ _ _ _)
  exact (changed.aside (aside_endHandling _)).completeAccounts begun _

theorem Starting.qualification (i : Nat) (c : Condition) : Starting limit agree calm s done (qualificationFalls i c w) := by
  unfold qualificationFalls
  split
  · exact h
  · split
    · unfold verdict
      split
      · exact (h.aside (.of_raise w (by decide) _ _)).finishChange begun _ _ _
      · exact h.finishChange begun _ _ _
    · exact h

theorem Starting.restart (i : Nat) : Starting limit agree calm s done (restartFalls i w) := by
  unfold restartFalls
  split
  · exact h
  · split
    · exact h.finishChange begun _ _ _
    · exact h

theorem Starting.heartbeat (i : Nat) : Starting limit agree calm s done (heartbeatFalls i w) := by
  unfold heartbeatFalls
  split
  · exact h
  · split
    · exact h.finishChange begun _ _ _
    · exact h

theorem Starting.deadline (d : DeadlineName) : Starting limit agree calm s (done ++ [.deadline d]) (takePassed d w) := by
  have other {v : Work} (k : Starting limit agree calm s done v) (expiry : ∀ n, d ≠ .expiry n)
      (window : ∀ n, d ≠ .completionWindow n) :
      Starting limit agree calm s (done ++ [.deadline d]) v :=
    k.more (fun n same => expiry n (StartWork.deadline.inj same)) (fun n same => window n (StartWork.deadline.inj same))
  cases d with
  | expiry n => exact h.expiry n
  | completionWindow n => exact h.window begun n
  | idle => exact other h (by simp) (by simp)
  | grantWindow => exact other h (by simp) (by simp)
  | qualification p c => exact other (h.qualification begun p c) (by simp) (by simp)
  | restart p => exact other (h.restart begun p) (by simp) (by simp)
  | restartCredit p => exact other (h.aside (aside_restartCreditFalls p w)) (by simp) (by simp)
  | heartbeat p => exact other (h.heartbeat begun p) (by simp) (by simp)
  | absence p => exact other (h.aside (aside_absenceFalls p w)) (by simp) (by simp)
  | overdue i => exact other (h.aside (aside_overdueFalls i w)) (by simp) (by simp)
  | acknowledgement n => exact other (h.aside (aside_escalate _ n w)) (by simp) (by simp)
  | work n => exact other (h.aside (aside_escalate _ n w)) (by simp) (by simp)

end

/-! ### The start's work (R82, R175) -/

section
variable {limit : Nat} {agree calm : Prop} {s : Work}

/-- The pieces in the order given. `calm`: no deadline is among them. -/
theorem Starting.pieces (order : List StartWork) (hc : calm → ∀ d, .deadline d ∉ order) {done : List StartWork} (r : Work × Bool)
    (h : Starting limit agree calm s done r.1) : Starting limit agree calm s (done ++ order) (order.foldl takeWork r).1 := by
  induction order generalizing done r with
  | nil => simpa using h
  | cons piece rest ih =>
    have step : Starting limit agree calm s (done ++ [piece]) (takeWork r piece).1 := by
      cases piece with
      | giveBack n => exact (h.endRelease none n).more (by simp) (by simp)
      | rolls =>
        refine Starting.more ?_ (by simp) (by simp)
        simp only [takeWork]
        split
        · exact h
        · exact h.aside (aside_catchUp _)
      | deadline d => exact h.deadline (fun c => hc c d List.mem_cons_self) d
    have last := ih (fun c d => fun mem => hc c d (List.mem_cons_of_mem _ mem)) (takeWork r piece) step
    rwa [List.append_assoc] at last

/-- The work in the order given, the catch-up and the returns that it left out (log 5). -/
theorem Starting.startWork (order : List StartWork) (hc : calm → ∀ d, .deadline d ∉ order) {w : Work}
    (h : Starting limit agree calm s [] w) : Starting limit agree calm s order (startWork order w) := by
  have taken := Starting.pieces order hc (w, false) h
  rw [List.nil_append] at taken
  refine Starting.foldl (fun _ n k => k.endRelease none n) _ _ ?_
  split
  · exact taken
  · exact taken.aside (aside_catchUp _)

end

end Sys2Proof.Laws
end

section
/-! PROOF. How a warm start begins: the visits cleared, the in-flight lists rebuilt and the counts counted afresh (R82 steps 1 and 3). -/

namespace Sys2Proof.Laws

open Sys2Proof.Machine Sys2Proof.Safety Sys2Proof.Clock Sys2Proof.Release

/-! ### The rebuilt lists hold what the lists held -/

theorem insertByAccepted_perm (r : Records) (e : InFlight) (l : List InFlight) : (insertByAccepted r e l).Perm (e :: l) := by
  induction l with
  | nil => exact .refl _
  | cons f rest ih =>
    unfold insertByAccepted
    split
    · exact .refl _
    · exact (ih.cons f).trans (.swap e f rest)

theorem foldl_insertByAccepted_perm (r : Records) (l sorted : List InFlight) :
    (l.foldl (fun sorted e => insertByAccepted r e sorted) sorted).Perm (sorted ++ l) := by
  induction l generalizing sorted with
  | nil => simp
  | cons e rest ih =>
    refine (ih _).trans (((insertByAccepted_perm r e sorted).append_right rest).trans ?_)
    exact List.perm_middle.symm

theorem rebuiltList_perm (r : Records) (l : List InFlight) : (rebuiltList r l).Perm l := by
  have sorted := foldl_insertByAccepted_perm r (l.filter (fun e => (acceptedOf r e.job).isSome)) []
  rw [List.nil_append] at sorted
  have others : l.filter (fun e => (acceptedOf r e.job).isNone) = l.filter (fun e => !(acceptedOf r e.job).isSome) := by
    refine List.filter_congr fun e _ => ?_
    cases acceptedOf r e.job <;> rfl
  unfold rebuiltList
  rw [others]
  exact (sorted.append_right _).trans (List.filter_append_perm _ l)

/-- A list that names a job once is read the same in any order. -/
theorem find?_job_of_perm {l l' : List InFlight} (once : (l.map (·.job)).Nodup) (h : l'.Perm l) (n : Nat) :
    l'.find? (fun e => e.job == n) = l.find? (fun e => e.job == n) := by
  have found {l : List InFlight} (once : (l.map (·.job)).Nodup) (e : InFlight) :
      l.find? (fun e => e.job == n) = some e ↔ e ∈ l ∧ e.job = n := by
    constructor
    · intro h
      exact ⟨List.mem_of_find?_eq_some h, by simpa using List.find?_some h⟩
    · rintro ⟨mem, rfl⟩
      cases hf : l.find? (fun f => f.job == e.job) with
      | none => exact absurd (List.find?_eq_none.mp hf e mem) (by simp)
      | some f =>
        have same : f.job = e.job := by simpa using List.find?_some hf
        rw [List.inj_on_of_nodup_map once (List.mem_of_find?_eq_some hf) mem same]
  refine Option.ext fun e => ?_
  rw [found once, found ((h.map _).nodup_iff.mpr once), h.mem_iff]

theorem lookup_mapIndexed {α β : Type} (t : Table α) (f : Nat → α → β) (i : Nat) :
    Table.lookup (t.map (fun e => (e.1, f e.1 e.2))) i = (t.lookup i).map (f i) := by
  induction t with
  | nil => rfl
  | cons e rest ih =>
    obtain ⟨k, a⟩ := e
    simp only [List.map_cons, Table.lookup]
    split
    · subst k; rfl
    · exact ih

/-! ### The jobs in flight, counted for their owner -/

section
variable {s : Records} (sound : TablesSound s) (agree : FlightAgrees s)
include sound agree

/-- An entry of the in-flight lists is a job in flight at the list's printer. -/
theorem listed_grant {e : Nat × List InFlight} (he : e ∈ s.rlu.inFlight) {f : InFlight} (hf : f ∈ e.2) :
    ∃ j, s.hq.jobs.lookup f.job = some j ∧ j.stage.grant?.map (·.printer) = some e.1 := by
  obtain ⟨q, hq, hqe⟩ := agree.free e he
  have list : inFlightList s q.1 = e.2 := by
    simp only [inFlightList, Table.list, hqe, sound.inFlight.lookup_of_mem (i := e.1) (v := e.2) he, Option.getD_some]
  obtain ⟨⟨n, j⟩, hj, hn, grant⟩ := agree.listed q hq f (list ▸ hf)
  subst hn
  exact ⟨j, sound.jobs.lookup_of_mem hj, hqe ▸ grant⟩

/-- The lists hold each job in flight once and no other (R72). -/
theorem inFlight_once : ((s.rlu.inFlight.flatMap (·.2)).map (·.job)).Nodup := by
  rw [List.map_flatMap, List.nodup_flatMap]
  constructor
  · intro e he
    obtain ⟨q, hq, hqe⟩ := agree.free e he
    have once := agree.once q hq
    rwa [inFlightList, Table.list, hqe, sound.inFlight.lookup_of_mem (i := e.1) (v := e.2) he, Option.getD_some] at once
  · refine sound.inFlight.rising.imp_of_mem fun {e f} he hf lt n hn hn' => ?_
    obtain ⟨a, ha, rfl⟩ := List.mem_map.mp hn
    obtain ⟨b, hb, same⟩ := List.mem_map.mp hn'
    obtain ⟨j, hj, grant⟩ := listed_grant sound agree he ha
    obtain ⟨j', hj', grant'⟩ := listed_grant sound agree hf hb
    rw [same, hj] at hj'
    cases hj'
    rw [grant] at grant'
    exact absurd (Option.some.inj grant') (Nat.ne_of_lt lt)

theorem mem_inFlight_iff (n : Nat) :
    n ∈ (s.rlu.inFlight.flatMap (·.2)).map (·.job) ↔ ∃ j, s.hq.jobs.lookup n = some j ∧ j.stage ≠ .held := by
  simp only [List.mem_map, List.mem_flatMap]
  constructor
  · rintro ⟨f, ⟨e, he, hf⟩, rfl⟩
    obtain ⟨j, hj, grant⟩ := listed_grant sound agree he hf
    refine ⟨j, hj, fun held => ?_⟩
    rw [held] at grant
    cases grant
  · rintro ⟨j, hj, flies⟩
    obtain none | ⟨q, hq, -, listed, -⟩ := agree.assigned (n, j) (Table.mem_of_lookup hj)
    · cases hs : j.stage with
      | held => exact absurd hs flies
      | releasing => simp [hs, Stage.grant?] at none
      | printing => simp [hs, Stage.grant?] at none
    · obtain ⟨f, hf, same⟩ := List.mem_map.mp listed
      have found := lookup_of_list (t := s.rlu.inFlight) (i := q.1) (List.ne_nil_of_mem hf)
      exact ⟨f, ⟨_, Table.mem_of_lookup found, hf⟩, same⟩

end

/-- The entries counted for an account are its jobs in flight. -/
theorem flyingOf_eq {w : Work} (sound : TablesSound w.toRecords) (agree : FlightAgrees w.toRecords) {limit : Nat}
    (hl : 65536 ≤ limit) (i : Nat) : flyingOf w.toRecords i = tally limit (flying i) (view w) := by
  have counted : flyingOf w.toRecords i =
      (((w.rlu.inFlight.flatMap (·.2)).map (·.job)).filter (fun n => decide (owner? w.toRecords n = some i))).length := by
    rw [List.filter_map, List.length_map]
    rfl
  have once := (inFlight_once sound agree).filter (fun n => decide (owner? w.toRecords n = some i))
  have mem (n : Nat) :
      n ∈ ((w.rlu.inFlight.flatMap (·.2)).map (·.job)).filter (fun n => decide (owner? w.toRecords n = some i))
        ↔ ∃ j, w.hq.jobs.lookup n = some j ∧ j.owner = i ∧ j.stage ≠ .held := by
    rw [List.mem_filter, mem_inFlight_iff sound agree, decide_eq_true_eq]
    constructor
    · rintro ⟨⟨j, hj, flies⟩, owner⟩
      exact ⟨j, hj, by simpa [owner?, hj] using owner, flies⟩
    · rintro ⟨j, hj, owner, flies⟩
      exact ⟨⟨j, hj, flies⟩, by simp [owner?, hj, owner]⟩
  have each (n : Nat) : (((view w).job n).map (flying i)).getD 0 =
      if n ∈ ((w.rlu.inFlight.flatMap (·.2)).map (·.job)).filter (fun n => decide (owner? w.toRecords n = some i)) then 1 else 0 := by
    cases hj : w.hq.jobs.lookup n with
    | none =>
      rw [view_job_of_missing hj, if_neg (by rw [mem, hj]; simp)]
      rfl
    | some j =>
      obtain ⟨stage, -, owner, -⟩ := core_fields j
      rw [view_job_of_lookup hj, Option.map_some, Option.getD_some, flying, stage, owner]
      by_cases flies : j.owner = i ∧ j.stage ≠ .held
      · rw [if_pos flies, if_pos ((mem n).mpr ⟨j, hj, flies⟩)]
      · rw [if_neg flies, if_neg]
        rw [mem, hj]
        rintro ⟨k, hk, flies'⟩
        cases hk
        exact flies flies'
  rw [counted, ← List.toFinset_card_of_nodup once, tally, Finset.sum_congr rfl fun n _ => each n, ← Finset.card_filter]
  congr 1
  ext n
  rw [Finset.mem_filter, List.mem_toFinset, Finset.mem_range, and_iff_right_of_imp]
  intro mem
  obtain ⟨j, hj, -⟩ := (mem_inFlight_iff sound agree n).mp (List.mem_filter.mp mem).1
  exact (sound.jobs.bounds hj).2.trans_le hl

/-! ### The beginning of a start -/

/-- The counts do not depend on the order of the lists. -/
theorem flyingOf_rebuilt {r r' : Records} (jobs : r'.hq = r.hq) {c : Records}
    (flight : r'.rlu.inFlight = r.rlu.inFlight.map (fun e => (e.1, rebuiltList c e.2))) (i : Nat) :
    flyingOf r' i = flyingOf r i := by
  unfold flyingOf
  have perm : (r'.rlu.inFlight.flatMap (·.2)).Perm (r.rlu.inFlight.flatMap (·.2)) := by
    rw [flight, List.flatMap_map]
    exact List.Perm.flatMap_left _ fun e _ => rebuiltList_perm c e.2
  have owners : owner? r' = owner? r := by
    funext n
    rw [owner?, jobs, owner?]
  rw [owners]
  exact (perm.filter _).length_eq

theorem list_rebuilt (t : Table (List InFlight)) (c : Records) (p : Nat) :
    Table.list (t.map (fun e => (e.1, rebuiltList c e.2))) p = rebuiltList c (t.list p) := by
  simp only [Table.list, lookup_mapIndexed t (fun _ l => rebuiltList c l)]
  cases t.lookup p <;> rfl

section
variable (w : Work)

theorem rebuilt_job (n : Nat) : (view (rebuildFlight (clearVisits w))).job n = (view w).job n := rfl

theorem rebuildFlight_lookup (i : Nat) :
    (rebuildFlight w).adir.accounts.lookup i =
      (w.adir.accounts.lookup i).map (fun a => { a with inFlight := flyingOf w.toRecords i }) := by
  have counted := flyingOf_rebuilt (r := w.toRecords) (c := w.toRecords)
    (r' := { w.toRecords with rlu := { w.rlu with inFlight := w.rlu.inFlight.map (fun e => (e.1, rebuiltList w.toRecords e.2)) } })
    rfl rfl i
  rw [← counted]
  exact lookup_mapIndexed (β := Account) w.adir.accounts (fun k a => { a with inFlight := flyingOf _ k }) i

theorem rebuilt_account (i : Nat) :
    (view (rebuildFlight (clearVisits w))).account i =
      ((view w).account i).map (fun a => { a with inFlight := flyingOf w.toRecords i }) := by
  have cleared : (clearVisits w).adir.accounts.lookup i = (w.adir.accounts.lookup i).map (fun a => { a with openVisit := none }) :=
    lookup_mapIndexed (β := Account) w.adir.accounts (fun _ a => { a with openVisit := none }) i
  simp only [view, rebuildFlight_lookup, cleared, Option.map_map]
  rfl

theorem rebuilt_window {p : Nat} (once : ((inFlightList w.toRecords p).map (·.job)).Nodup) (n : Nat) :
    (view (rebuildFlight (clearVisits w))).window p n = (view w).window p n := by
  have list : inFlightList (rebuildFlight (clearVisits w)).toRecords p =
      rebuiltList (clearVisits w).toRecords (inFlightList w.toRecords p) := list_rebuilt _ _ _
  simp only [view, window?, list, find?_job_of_perm once (rebuiltList_perm _ _)]

end

/-- A warm start begins with the jobs and the reserved points as they were, and with the counts right. -/
theorem starting_rebuilt {w : Work} (sound : TablesSound w.toRecords) (fresh : w.raised = []) {limit : Nat} (hl : 65536 ≤ limit)
    (calm : Prop) : Starting limit (RecordsAgree w.toRecords) calm w [] (rebuildFlight (clearVisits w)) := by
  have sums (f : Job → Nat) : tally limit f (view (rebuildFlight (clearVisits w))) = tally limit f (view w) :=
    Finset.sum_congr rfl fun n _ => by rw [rebuilt_job]
  have was {i : Nat} {a' : Standing} (h : (view (rebuildFlight (clearVisits w))).account i = some a') :
      ∃ a, (view w).account i = some a ∧ a'.state = a.state ∧ a'.reserved = a.reserved ∧ a'.inFlight = flyingOf w.toRecords i := by
    rw [rebuilt_account] at h
    obtain ⟨a, ha, rfl⟩ := Option.map_eq_some_iff.mp h
    exact ⟨a, ha, rfl, rfl, rfl⟩
  have stays {i : Nat} {a : Standing} (h : (view w).account i = some a) :
      ∃ a', (view (rebuildFlight (clearVisits w))).account i = some a' := by
    rw [rebuilt_account, h]
    exact ⟨_, rfl⟩
  refine ⟨rfl, fun r hr => ?_, rfl, ⟨fun n j hj => ?low, fun n j hj _ => hj, fun i a' ha' => ?state, fun i a ha _ => stays ha,
    fun i a a' ha ha' _ => ?reserved, fun i retires missing => ?gone, fun ag i a' ha' => ?counted,
    fun ag n j g accepted hj hs => ?windows⟩, ⟨fun n hn => hn, fun n j hj hs taken => (by simp at taken), fun n j hj _ _ => hj,
    fun n j g accepted hj _ => .inl hj, fun ag n j g accepted hj hs => ?settled, fun n j g hj _ => .inl hj⟩⟩
  · rw [show (rebuildFlight (clearVisits w)).raised = w.raised from rfl, fresh] at hr
    cases hr
  case low =>
    rw [rebuilt_job] at hj
    obtain ⟨k, hk, -⟩ := Option.map_eq_some_iff.mp hj
    exact (sound.jobs.bounds hk).2.trans_le hl
  case state =>
    obtain ⟨a, ha, state, -⟩ := was ha'
    exact ⟨a, ha, state⟩
  case reserved =>
    obtain ⟨b, hb, -, same, -⟩ := was ha'
    rw [ha] at hb
    cases hb
    rw [sums, Nat.sub_self]
    exact ⟨same, Nat.le_refl _⟩
  case gone =>
    obtain ⟨a, accepted, ha, -⟩ := retires
    obtain ⟨a', ha'⟩ := stays ha
    rw [missing] at ha'
    cases ha'
  case counted =>
    obtain ⟨b, hb, -, -, same⟩ := was ha'
    rw [same, sums]
    exact flyingOf_eq sound ag.flight hl i
  case windows =>
    rw [rebuilt_job] at hj
    obtain ⟨k, hk, same⟩ := Option.map_eq_some_iff.mp hj
    have flies := eq_of_core same (by simp [hs])
    subst flies
    obtain none | ⟨q, hq, at_q, -, -⟩ := ag.flight.assigned (n, k) (Table.mem_of_lookup hk)
    · simp [hs, Stage.grant?] at none
    · have printer : g.printer = q.1 := by simpa [hs, Stage.grant?] using at_q
      rw [printer]
      exact rebuilt_window w (ag.flight.once q hq) n
  case settled =>
    rw [rebuilt_job, hj]
    simp

end Sys2Proof.Laws
end

section
/-! PROOF. A warm start (R175, R185): what its work has brought at its end, START at the head of the queue, and the midnights crossed. -/

namespace Sys2Proof.Link

open Sys2Proof.Machine Sys2Proof.Safety Sys2Proof.Laws Sys2Proof.Clock Sys2Proof.Release

/-! ### No release is left under way (R82) -/

/-- The job of this number is not RELEASING. -/
def NoRelease (w : Work) (n : Nat) : Prop := ∀ j g, (view w).job n = some j → j.stage ≠ .releasing g

section
variable {limit : Nat} {agree calm : Prop} {s w : Work} {done : List StartWork}

/-- A return leaves its job not RELEASING, and each other job as it was. -/
theorem noRelease_endRelease (idle : w.rlu.visits = []) (n m : Nat) (h : m = n ∨ NoRelease w m) :
    NoRelease (endRelease false none w n) m := by
  have unchanged (same : endRelease false none w n = w) (here : NoRelease w n) : NoRelease (endRelease false none w n) m := by
    rw [same]
    obtain rfl | h := h
    · exact here
    · exact h
  cases hj : w.hq.jobs.lookup n with
  | none =>
    refine unchanged (by simp only [endRelease, hj]) fun j g hn => ?_
    rw [view_job_of_missing hj] at hn
    cases hn
  | some j =>
    have here {stage : Stage} (hs : j.stage = stage) (no : ∀ g, stage ≠ .releasing g) : NoRelease w n := by
      intro k g hk
      rw [view_job_of_lookup hj] at hk
      cases hk
      rw [(core_fields j).1, hs]
      exact no g
    cases hs : j.stage with
    | held => exact unchanged (by simp only [endRelease, hj, hs]) (here hs (by simp))
    | printing => exact unchanged (by simp only [endRelease, hj, hs]) (here hs (by simp))
    | releasing g =>
      obtain ⟨k, given, turned⟩ := turns_endRelease idle none hj hs
      intro j' g' hj'
      rw [turned.view, show ((view w).land n j.owner g k).job m = if m = n then k else (view w).job m from rfl] at hj'
      split at hj'
      · subst hj'
        obtain ⟨rfl, -⟩ := given
        rw [(core_fields _).1]
        simp
      · exact h.resolve_left ‹_› j' g' hj'

theorem noRelease_returns (l : List Nat) (h : Starting limit agree calm s done w) (m : Nat) (hm : m ∈ l ∨ NoRelease w m) :
    NoRelease (l.foldl (endRelease false none) w) m := by
  induction l generalizing w with
  | nil => exact hm.resolve_left List.not_mem_nil
  | cons n rest ih =>
    refine ih (h.endRelease none n) ?_
    obtain mem | no := hm
    · obtain same | mem := List.mem_cons.mp mem
      · exact .inr (noRelease_endRelease h.idle n m (.inl same))
      · exact .inl mem
    · exact .inr (noRelease_endRelease h.idle n m (.inr no))

theorem noRelease_releasingJobs (h : Starting limit agree calm s done w) (m : Nat) :
    NoRelease ((releasingJobs w.toRecords).foldl (endRelease false none) w) m := by
  refine noRelease_returns _ h m ?_
  by_cases mem : m ∈ releasingJobs w.toRecords
  · exact .inl mem
  · refine .inr fun j g hj hs => mem ?_
    obtain ⟨k, hk, rfl⟩ := Option.map_eq_some_iff.mp hj
    rw [(core_fields k).1] at hs
    exact List.mem_map.mpr ⟨(m, k), List.mem_filter.mpr ⟨Table.mem_of_lookup hk, by simp [hs, Stage.code]⟩, rfl⟩

/-- The start's work leaves no release under way. -/
theorem noRelease_startWork (order : List StartWork) (hc : calm → ∀ d, .deadline d ∉ order) (h : Starting limit agree calm s [] w)
    (m : Nat) : NoRelease (startWork order w) m := by
  have taken := Starting.pieces order hc (w, false) h
  unfold startWork
  dsimp only
  split
  · exact noRelease_releasingJobs taken m
  · exact noRelease_releasingJobs (taken.aside (aside_catchUp _)) m

/-! ### The retirements complete (R82 step 5) -/

theorem completeAccount_turned (idle : w.rlu.visits = []) (i : Nat) :
    completeAccount i w = w ∧ ¬ (view w).Down i ∨ Turns w (completeAccount i w) (·.dropAccount i) := by
  by_cases down : (view w).Down i
  · exact .inr (turns_completeAccount idle down)
  · exact .inl ⟨completeAccount_of_not_down down, down⟩

theorem noRelease_completeAccount (idle : w.rlu.visits = []) (i : Nat) {m : Nat} (h : NoRelease w m) :
    NoRelease (completeAccount i w) m := by
  obtain ⟨same, -⟩ | turned := completeAccount_turned idle i
  · rwa [same]
  · unfold NoRelease
    rw [turned.view]
    exact h

theorem not_down_completeAccount (idle : w.rlu.visits = []) (i : Nat) {k : Nat} (h : k = i ∨ ¬ (view w).Down k) :
    ¬ (view (completeAccount i w)).Down k := by
  obtain ⟨same, stands⟩ | turned := completeAccount_turned idle i
  · rw [same]
    obtain rfl | h := h
    · exact stands
    · exact h
  · rw [turned.view]
    rintro ⟨a, accepted, ha, rest⟩
    rw [show ((view w).dropAccount i).account k = if k = i then none else (view w).account k from rfl] at ha
    split at ha
    · cases ha
    · exact h.resolve_left ‹_› ⟨a, accepted, ha, rest⟩

/-- Every RETIRING account with nothing in flight is FREE, and nothing else changes. -/
theorem completed (l : List Nat) (h : Starting limit agree calm s done w) (no : ∀ m, NoRelease w m) :
    Starting limit agree calm s done (completeAccounts l w) ∧ (∀ m, NoRelease (completeAccounts l w) m)
      ∧ ∀ k, k ∈ l ∨ ¬ (view w).Down k → ¬ (view (completeAccounts l w)).Down k := by
  unfold completeAccounts
  induction l generalizing w with
  | nil => exact ⟨h, no, fun k hk => hk.resolve_left List.not_mem_nil⟩
  | cons i rest ih =>
    obtain ⟨starting, none, down⟩ := ih (h.complete i fun _ m j g hj _ => no m j g hj)
      fun m => noRelease_completeAccount h.idle i (no m)
    refine ⟨starting, none, fun k hk => down k ?_⟩
    obtain mem | stands := hk
    · obtain same | mem := List.mem_cons.mp mem
      · exact .inr (not_down_completeAccount h.idle i (.inl same))
      · exact .inl mem
    · exact .inr (not_down_completeAccount h.idle i (.inr stands))

theorem completed_retirements (h : Starting limit agree calm s done w) (no : ∀ m, NoRelease w m) :
    Starting limit agree calm s done (completeRetirements w) ∧ (∀ m, NoRelease (completeRetirements w) m)
      ∧ ∀ k, ¬ (view (completeRetirements w)).Down k := by
  obtain ⟨starting, none, down⟩ := completed w.adir.accounts.indices h no
  have rest : Aside (completeAccounts w.adir.accounts.indices w) (completeRetirements w) :=
    Aside.foldl (fun w i => aside_completePrinter i w) _ _
  have same := (rest.turns starting.idle).view
  refine ⟨starting.aside rest, fun m => ?_, fun k => ?_⟩
  · unfold NoRelease
    rw [same]
    exact none m
  · rw [same]
    refine down k ?_
    by_cases mem : k ∈ w.adir.accounts.indices
    · exact .inl mem
    · refine .inr fun ⟨a, _, ha, _⟩ => mem ?_
      obtain ⟨b, hb, -⟩ := Option.map_eq_some_iff.mp ha
      exact List.mem_map.mpr ⟨(k, b), Table.mem_of_lookup hb, rfl⟩

end

/-- The work of a warm start, behind its START notice. -/
def warmEnd (order : List StartWork) (w : Work) : Work :=
  completeRetirements (endHandling (startWork order (rebuildFlight (clearVisits w))))

theorem warmEnd_spec {s : Work} (sound : TablesSound s.toRecords) (fresh : s.raised = []) {limit : Nat} (hl : 65536 ≤ limit)
    (order : List StartWork) :
    Starting limit (RecordsAgree s.toRecords) (∀ d, .deadline d ∉ order) s order (warmEnd order s)
      ∧ (∀ m, NoRelease (warmEnd order s) m) ∧ ∀ k, ¬ (view (warmEnd order s)).Down k := by
  have begun := starting_rebuilt sound fresh hl (∀ d, StartWork.deadline d ∉ order)
  have worked := begun.startWork order id
  have handled := worked.aside (aside_endHandling _)
  refine completed_retirements handled fun m => ?_
  unfold NoRelease
  rw [((aside_endHandling _).turns worked.idle).view]
  exact noRelease_startWork order id begun m

end Sys2Proof.Link
end

section
/-! PROOF. The statement of a warm start (R175, R185): START at the head of the queue, the midnights crossed, and what the end of its
work says of each job and account. -/

namespace Sys2Proof.Link

open Sys2Proof.Machine Sys2Proof.Safety Sys2Proof.Laws Sys2Proof.Clock Sys2Proof.Release

/-! ### START stays at the head (R181, R185) -/

/-- A notice that is not START leaves START where it stands. -/
theorem place_keeps_start {l : Lnk} {start : Notice} {rest : List Notice} (head : l.notices = start :: rest)
    (is : start.notice.kind = .start) {r : Raised} (other : r.kind ≠ .start) :
    ∃ rest', (l.place r).notices = start :: rest' := by
  have kept : coalesce r start = start := by
    unfold coalesce
    refine if_neg ?_
    simp only [sameKey, is, Bool.and_eq_true, decide_eq_true_eq]
    exact fun same => other same.1.symm
  unfold Lnk.place
  split
  · exact ⟨rest.map (coalesce r), by simp only [head, List.map_cons, kept]⟩
  · split
    · exact ⟨rest, head⟩
    · split
      · exact ⟨rest ++ [{ notice := r, changes := 0 }], by simp only [head, List.cons_append]⟩
      · split
        · exact ⟨rest, head⟩
        · exact ⟨rest, head⟩

theorem placeAll_keeps_start {start : Notice} (is : start.notice.kind = .start) (rs : List Raised)
    (others : ∀ r ∈ rs, r.kind ≠ .start) {l : Lnk} {rest : List Notice} (head : l.notices = start :: rest) :
    ∃ rest', (l.placeAll rs).notices = start :: rest' := by
  induction rs generalizing l rest with
  | nil => exact ⟨rest, head⟩
  | cons r more ih =>
    obtain ⟨rest', head'⟩ := place_keeps_start head is (others r List.mem_cons_self)
    exact ih (fun r hr => others r (List.mem_cons_of_mem _ hr)) head'

/-- The notices of a warm start stand behind its START. -/
theorem placeAll_powered (l : Lnk) (r : Raised) (is : r.kind = .start) (rs : List Raised) (others : ∀ r ∈ rs, r.kind ≠ .start) :
    ∃ rest, ((l.powered .warm).placeAll (r :: rs)).notices = { notice := r, changes := 0 } :: rest := by
  have placed : (l.powered .warm).place r = { l.powered .warm with notices := [{ notice := r, changes := 0 }] } :=
    place_of_room (by simp [KeyStands, Lnk.powered, Lnk.prepare]) (by simp [KeyStands, Lnk.powered, Lnk.prepare])
      ⟨Nat.zero_lt_succ _, rfl⟩
  exact placeAll_keeps_start (l := (l.powered .warm).place r) (start := { notice := r, changes := 0 }) is rs others
    (rest := []) (by rw [placed])

/-! ### The midnights crossed (R175) -/

theorem crossed_of_not_fallen {f : Fck} (h : ∀ d, f.roll = some d → ¬ fallen f.uptime d) : crossed f = 0 := by
  unfold crossed
  split
  · rfl
  case h_2 d hd => exact if_neg fun k => h d hd ((reached_iff_fallen _ _).mp k.1)

theorem lt_crossed_iff {f : Fck} {d : Deadline} (hd : f.roll = some d) (due : fallen f.uptime d)
    (offset : f.offset ≤ 1099511627775) (k : Nat) :
    k < crossed f ↔ d.value + 86400 * k ≤ f.uptime ∧ (d.value : Int) + 86400 * k + f.offset ≤ 1099511627775 := by
  have counted : crossed f =
      if d.value ≤ min f.uptime ((1099511627775 : Int) - f.offset).toNat then
        (min f.uptime ((1099511627775 : Int) - f.offset).toNat - d.value) / 86400 + 1 else 0 := by
    simp only [crossed, hd, (reached_iff_fallen d f.uptime).mpr due, true_and]
    rfl
  rw [counted]
  split
  · rw [Nat.lt_succ_iff, Nat.le_div_iff_mul_le (by decide)]
    omega
  · omega

/-! ### The end of the work, job by job -/

theorem lookup_of_view {w : Work} {n : Nat} {k : Job} (h : (view w).job n = some k) :
    ∃ j, w.hq.jobs.lookup n = some j ∧ j.stage = k.stage ∧ j.attempts = k.attempts ∧ j.owner = k.owner ∧ j.expiry = k.expiry := by
  obtain ⟨j, hj, rfl⟩ := Option.map_eq_some_iff.mp h
  obtain ⟨stage, attempts, owner, expiry⟩ := core_fields j
  exact ⟨j, hj, stage.symm, attempts.symm, owner.symm, expiry.symm⟩

theorem missing_of_view {w : Work} {n : Nat} (h : (view w).job n = none) : w.hq.jobs.lookup n = none :=
  Option.map_eq_none_iff.mp h

theorem view_job_of_flying {w : Work} {n : Nat} {j : Job} (h : w.hq.jobs.lookup n = some j) (flies : j.stage ≠ .held) :
    (view w).job n = some j := (view_job_of_lookup h).trans (congrArg some (core_of_flying flies))

theorem retires_of_lookup {w : Work} {i accepted : Nat} {a : Account} (ha : w.adir.accounts.lookup i = some a)
    (h : a.state = .retiring accepted) : (view w).Retires i := ⟨standing a, accepted, congrArg (Option.map standing) ha, h⟩

theorem not_retires_of_lookup {w : Work} {i : Nat} {a : Account} (ha : w.adir.accounts.lookup i = some a)
    (h : ∀ accepted, a.state ≠ .retiring accepted) : ¬ (view w).Retires i := by
  rintro ⟨b, accepted, hb, retiring⟩
  rw [show (view w).account i = some (standing a) from congrArg (Option.map standing) ha] at hb
  cases hb
  exact h accepted retiring

/-- A PRINTING job whose completion window is taken, and has been reached, is settled (R77). -/
def TakenSettled (r : Records) (order : List StartWork) (n : Nat) (j : Job) : Prop :=
  ∃ g accepted d, j.stage = .printing g accepted ∧ .deadline (.completionWindow n) ∈ order
    ∧ window? r g.printer n = some d ∧ fallen r.fck.uptime d

section
variable {limit : Nat} {agree calm : Prop} {s t : Work} {order : List StartWork} (h : Starting limit agree calm s order t)
  (no : ∀ m, NoRelease t m)
include h

section
variable {n : Nat} {j : Job} (hj : s.hq.jobs.lookup n = some j)
include hj

section
variable {g : Grant} (releasing : j.stage = .releasing g)
include releasing no

/-- What became of a RELEASING job. -/
theorem release_ended :
    (t.hq.jobs.lookup n = none ∧ ((view s).Retires j.owner ∨ fallen s.fck.uptime j.expiry))
    ∨ (∃ j', t.hq.jobs.lookup n = some j' ∧ j'.stage = .held ∧ j'.attempts = j.attempts ∧ j'.owner = j.owner ∧ j'.expiry = j.expiry)
      ∧ ¬ fallen s.fck.uptime j.expiry ∧ ¬ ((view s).Retires j.owner ∧ (agree ∨ calm)) := by
  obtain same | ⟨back, rest⟩ | ⟨gone, why⟩ := h.fates.releasing n j g (view_job_of_flying hj (by simp [releasing])) releasing
  · exact absurd releasing (no n j g same)
  · obtain ⟨j', hj', stage, attempts, owner, expiry⟩ := lookup_of_view back
    obtain ⟨coreStage, coreAttempts, coreOwner, coreExpiry⟩ := core_fields { j with stage := .held }
    exact .inr ⟨⟨j', hj', stage.trans coreStage, attempts.trans coreAttempts, owner.trans coreOwner, expiry.trans coreExpiry⟩, rest⟩
  · exact .inl ⟨missing_of_view gone, why⟩

theorem release_ended_of_fallen (due : fallen s.fck.uptime j.expiry) : t.hq.jobs.lookup n = none := by
  obtain ⟨gone, -⟩ | ⟨-, waits, -⟩ := release_ended h no hj releasing
  · exact gone
  · exact absurd due waits

theorem release_ended_of_retiring (retires : (view s).Retires j.owner) (known : agree ∨ calm) : t.hq.jobs.lookup n = none := by
  obtain ⟨gone, -⟩ | ⟨-, -, stays⟩ := release_ended h no hj releasing
  · exact gone
  · exact absurd ⟨retires, known⟩ stays

theorem release_ended_of_waiting (stays : ¬ (view s).Retires j.owner) (waits : ¬ fallen s.fck.uptime j.expiry) :
    ∃ j', t.hq.jobs.lookup n = some j' ∧ j'.stage = .held ∧ j'.attempts = j.attempts ∧ j'.owner = j.owner ∧ j'.expiry = j.expiry := by
  obtain ⟨-, retires | due⟩ | ⟨back, -⟩ := release_ended h no hj releasing
  · exact absurd retires stays
  · exact absurd due waits
  · exact back

end

theorem held_ended (held : j.stage = .held) :
    (.deadline (.expiry n) ∈ order → fallen s.fck.uptime j.expiry → t.hq.jobs.lookup n = none)
    ∧ (.deadline (.expiry n) ∉ order ∨ ¬ fallen s.fck.uptime j.expiry →
        ∃ j', t.hq.jobs.lookup n = some j' ∧ j'.stage = .held ∧ j'.attempts = j.attempts ∧ j'.owner = j.owner) := by
  have here := view_job_of_lookup hj
  obtain ⟨stage, attempts, owner, expiry⟩ := core_fields j
  constructor
  · intro taken due
    exact missing_of_view (h.fates.expired n _ here (stage.trans held) taken (expiry ▸ due))
  · intro left
    obtain ⟨j', hj', stage', attempts', owner', -⟩ := lookup_of_view (h.fates.held n _ here (stage.trans held) (expiry ▸ left))
    exact ⟨j', hj', (stage'.trans stage).trans held, attempts'.trans attempts, owner'.trans owner⟩

/-- A PRINTING job is gone where it is settled, and else whole. -/
theorem printing_ended {g : Grant} {accepted : Nat} (ag : agree) (printing : j.stage = .printing g accepted) :
    (TakenSettled s.toRecords order n j → t.hq.jobs.lookup n = none)
    ∧ (¬ TakenSettled s.toRecords order n j → (view t).job n = some j ∧ t.hq.jobs.lookup n = some j) := by
  have flies : j.stage ≠ .held := by simp [printing]
  have here := view_job_of_flying hj flies
  have decided := h.fates.settled ag n j g accepted here printing
  constructor
  · rintro ⟨g', accepted', d, printing', taken, hd, due⟩
    rw [printing] at printing'
    cases printing'
    exact missing_of_view (decided.mpr ⟨taken, d, hd, due⟩)
  · intro unsettled
    have stands : (view t).job n = some j := (h.fates.printing n j g accepted here printing).resolve_right fun gone => by
      obtain ⟨taken, d, hd, due⟩ := decided.mp gone
      exact unsettled ⟨g, accepted, d, printing, taken, hd, due⟩
    obtain ⟨k, hk, same⟩ := Option.map_eq_some_iff.mp stands
    exact ⟨stands, eq_of_core same flies ▸ hk⟩

end

section
variable {i : Nat} {a : Account} (ha : s.adir.accounts.lookup i = some a)
include ha

include no in
/-- The reserved points of an account without PRINTING jobs have fallen by the parts of its RELEASING ones (R23). -/
theorem reserved_ended (sound : TablesSound s.toRecords) (hl : 65536 ≤ limit) (active : ∀ accepted, a.state ≠ .retiring accepted)
    (quiet : ∀ e ∈ s.hq.jobs, e.2.owner = i → ∀ g accepted, e.2.stage ≠ .printing g accepted) :
    ∃ a', t.adir.accounts.lookup i = some a'
      ∧ a'.reserved = a.reserved - (s.hq.jobs.map (fun e => releasePart i e.2)).sum := by
  have here : (view s).account i = some (standing a) := congrArg (Option.map standing) ha
  obtain ⟨x, hx⟩ := h.books.stays i (standing a) here (not_retires_of_lookup ha active)
  obtain ⟨a', ha', rfl⟩ := Option.map_eq_some_iff.mp hx
  have nonePrinting : ∀ n j, (view s).job n = some j → j.owner = i → ∀ g accepted, j.stage ≠ .printing g accepted := by
    intro n j hj owner g accepted
    obtain ⟨k, hk, stage, -, owner', -⟩ := lookup_of_view hj
    rw [← stage]
    exact quiet (n, k) (Table.mem_of_lookup hk) (owner'.trans owner) g accepted
  obtain ⟨reserved, -⟩ := h.books.reserved i (standing a) (standing a') here hx nonePrinting
  have ended : tally limit (releasePart i) (view t) = 0 := tally_eq_zero fun n j hj => by
    unfold releasePart
    split
    case h_1 g hs => exact absurd hs (no n j g hj)
    · rfl
  have whole : tally limit (releasePart i) (view s) = (s.hq.jobs.map (fun e => releasePart i e.2)).sum := by
    refine tally_view hl sound fun j => ?_
    obtain ⟨stage, -, owner, -⟩ := core_fields j
    by_cases held : j.stage = .held
    · rw [releasePart_of_held (stage.trans held), releasePart_of_held held]
    · rw [core_of_flying held]
  rw [ended, Nat.sub_zero, whole] at reserved
  exact ⟨a', ha', reserved⟩

variable {accepted : Nat} (ag : agree) (retiring : a.state = .retiring accepted)
include ag retiring

include no in
/-- A RETIRING account is FREE where each job of it in PRINTING is settled (R160). -/
theorem retiring_ended (down : ∀ k, ¬ (view t).Down k)
    (landed : ∀ n j, s.hq.jobs.lookup n = some j ∧ j.owner = i ∧ (∃ g accepted, j.stage = .printing g accepted) →
      TakenSettled s.toRecords order n j) : t.adir.accounts.lookup i = none := by
  by_contra stands
  obtain ⟨a', ha'⟩ := Option.ne_none_iff_exists'.mp stands
  have here : (view t).account i = some (standing a') := congrArg (Option.map standing) ha'
  obtain ⟨b, hb, state⟩ := h.books.state i _ here
  rw [show (view s).account i = some (standing a) from congrArg (Option.map standing) ha] at hb
  cases hb
  refine down i ⟨standing a', accepted, here, state.trans retiring, ?_⟩
  rw [h.books.counted ag i _ here]
  refine tally_eq_zero fun n j hj => if_neg ?_
  rintro ⟨owner, flies⟩
  obtain ⟨k, hk, same⟩ := Option.map_eq_some_iff.mp (h.books.origin n j hj flies)
  have same := eq_of_core same flies
  subst same
  cases hs : k.stage with
  | held => exact flies hs
  | releasing g => exact no n k g hj hs
  | printing g accepted' =>
    have gone := (printing_ended h hk ag hs).1 (landed n k ⟨hk, owner, g, accepted', hs⟩)
    rw [view_job_of_missing gone] at hj
    cases hj

/-- It is RETIRING still where one is not. -/
theorem retiring_stays {n : Nat} {j : Job}
    (flies : s.hq.jobs.lookup n = some j ∧ j.owner = i ∧ ∃ g accepted, j.stage = .printing g accepted)
    (unsettled : ¬ TakenSettled s.toRecords order n j) :
    ∃ a', t.adir.accounts.lookup i = some a' ∧ a'.state = .retiring accepted := by
  obtain ⟨hj, owner, g, accepted', printing⟩ := flies
  obtain ⟨stands, -⟩ := (printing_ended h hj ag printing).2 unsettled
  cases ht : (view t).account i with
  | none =>
    have zero := (h.books.gone i (retires_of_lookup ha retiring) ht).2 ag
    have counted := le_tally (flying i) (view t) (h.books.low n j stands)
    rw [zero, stands] at counted
    simp [flying, owner, printing] at counted
  | some x =>
    obtain ⟨a', ha', rfl⟩ := Option.map_eq_some_iff.mp ht
    obtain ⟨b, hb, state⟩ := h.books.state i _ ht
    rw [show (view s).account i = some (standing a) from congrArg (Option.map standing) ha] at hb
    cases hb
    exact ⟨a', ha', state.trans retiring⟩

end

end

/-- A warm start's records are those its work leaves. -/
theorem warmStart_toRecords (order : List StartWork) (s : State) :
    (s.warmStart order).toRecords = (warmEnd order s.work).toRecords := by
  rw [warmStart_records, warmWork_records]
  rfl

theorem warmStart_lnk (order : List StartWork) (s : State) :
    (s.warmStart order).lnk = ((s.lnk.powered .warm).placeAll
      (startNotice .warm s.fck.uptime s.fck.clockSet (some (catchUpCounts s.fck)) :: (warmEnd order s.work).raised)).settleLines
        (s.warmStart order).cou.alarm := by
  have work : ({ s with lnk := s.lnk.powered .warm } : State).work = s.work := work_congr rfl
  simp only [State.warmStart, work, State.commit]
  rfl

theorem warmStart_pending (order : List StartWork) (s : State) : (s.warmStart order).pending = s.pending := by
  unfold State.warmStart State.commit
  rfl

theorem exec_warmStart (order : List StartWork) {s : State} (off : s.lnk.mainPower = false) (kept : s.lnk.retention = true) :
    exec (.mainPowerRise order) s = .next (s.warmStart order) := by
  show execMainPowerRise order s = _
  rw [execMainPowerRise, off, kept]
  exact congrArg _ ((if_neg Bool.false_ne_true).trans (if_pos rfl))

/-- Settles O18. -/
theorem warmStart : Obligations.WarmStart := by
  intro s order off kept sound part
  obtain ⟨limit, hl⟩ : ∃ limit, 65536 ≤ limit := ⟨_, Nat.le_refl _⟩
  obtain ⟨h, no, down⟩ := warmEnd_spec (s := s.work) sound rfl hl order
  have soundEnd : TablesSound (warmEnd order s.work).toRecords := by
    have stepped := (stepped_warmWork order s.work).tables sound
    rwa [warmWork_records] at stepped
  have records := warmStart_toRecords order s
  have link := warmStart_lnk order s
  obtain ⟨rest, head⟩ := placeAll_powered s.lnk (startNotice .warm s.fck.uptime s.fck.clockSet (some (catchUpCounts s.fck))) rfl
    (warmEnd order s.work).raised h.told
  have taken := exec_warmStart order off kept
  have pending := warmStart_pending order s
  refine ⟨s.warmStart order, rest, taken, ?_⟩
  generalize s.warmStart order = t at records link pending
  generalize warmEnd order s.work = w at h no down soundEnd records link head
  rw [records, link]
  refine ⟨?requests, ?replies, ?mask, ?inboxOverrun, ?startKind, ?mainPower, ?retention, pending, head, crossed_of_not_fallen,
    fun d hd due offset k => lt_crossed_iff hd due offset k, h.idle, fun e he g hs => ?noRelease, fun n j g a hj releasing ha =>
      ⟨release_ended_of_fallen h no hj releasing, fun accepted retiring known =>
        release_ended_of_retiring h no hj releasing (retires_of_lookup ha retiring) known.symm, fun active waits =>
        release_ended_of_waiting h no hj releasing (not_retires_of_lookup ha active) waits⟩, fun i a ha active quiet =>
      reserved_ended h no ha sound hl active quiet, fun ag => ?agree⟩
  case noRelease =>
    have here := view_job_of_flying (soundEnd.jobs.lookup_of_mem (i := e.1) (v := e.2) he) (by simp [hs])
    exact no e.1 e.2 g here hs
  case agree =>
    intro settled
    exact ⟨fun n j hj held => held_ended h hj held,
      fun n j g accepted hj printing => (printing_ended h hj ag printing).imp_right fun stands unsettled => (stands unsettled).2,
      fun i a accepted ha retiring => ⟨retiring_ended h no ha ag retiring down, fun ⟨n, j, flies, unsettled⟩ =>
        retiring_stays h ha ag retiring flies unsettled⟩⟩
  all_goals simp [Lnk.settleLines, Lnk.powered, Lnk.prepare]

end Sys2Proof.Link
end
